-- ==== Sys2Proof/Word.lean ====
section
/-!
DEFINITION. The widths of IRDEC's values (00_scope.md R9): every value is an unsigned integer of a stated width.
-/

namespace Sys2Proof

/-- A 32-bit value (`u32`): codes, durations, CFG values, bus data. -/
abbrev Word := BitVec 32

/-- A 64-bit time in microseconds (`u64`). -/
abbrev Time := BitVec 64

/-- A 12-bit byte address of the register space (20_memory.md R51). -/
abbrev Addr := BitVec 12

/-- A 10-bit word index `A[11:2]` of the register space (20_memory.md R51). -/
abbrev WordIndex := BitVec 10

/-- A BUS word: one host transaction, 45 bits (30_encoding.md R71). -/
abbrev BusWord := BitVec 45

/-- A SAMPLE word: one input sample, 65 bits (30_encoding.md R72). -/
abbrev SampleWord := BitVec 65

end Sys2Proof
end

