-- ==== Sys2Proof/Syntax.lean ====
section
/-!
DEFINITION. The instructions: one constructor per row of spec/opcode_table.json, in its order, and the two word
formats they are carried in (30_encoding.md R70 to R77).
-/

namespace Sys2Proof

/-- The operations of IRDEC. Bits the encoding ignores (D of a read, A[1:0] of a command or CFG write) are no
operands and are not kept (log entry 14). -/
inductive Instr where
  /-- RD, register read (44_host_interface.md R180). -/
  | rd (a : Addr)
  /-- NOP (R189). -/
  | nop
  /-- START (R190). -/
  | start
  /-- STOP (R191). -/
  | stop
  /-- ABORT (R192). -/
  | abort
  /-- CLRERR (R193). -/
  | clrerr
  /-- CMD_RESERVED, a CMD write of any other data word (R194). -/
  | cmdReserved (d : Word)
  /-- WR_CFG_IDLE (R183). -/
  | wrCfgIdle (d : Word)
  /-- WR_CFG_WINDOW (R184). -/
  | wrCfgWindow (d : Word)
  /-- WR_CFG_FLOOR (R185). -/
  | wrCfgFloor (d : Word)
  /-- WR_CFG_THRESH (R186). -/
  | wrCfgThresh (d : Word)
  /-- WR_CFG_REFRACT (R187). -/
  | wrCfgRefract (d : Word)
  /-- WR_IGNORED, a write to any other address (R188). -/
  | wrIgnored (a : Addr) (d : Word)
  /-- SMP, an input sample: level (`true` is 1, active, high) and timestamp (40_cycle_fsm.md R106). -/
  | smp (l : Bool) (t : Time)
  deriving DecidableEq, Repr

/-- A word on one of the two operand-carrying ports. The port it arrives on is its format (30_encoding.md R70). -/
inductive WireWord where
  | bus (w : BusWord)
  | sample (w : SampleWord)
  deriving DecidableEq, Repr

end Sys2Proof
end

