-- ==== Sys2Proof/WellFormed.lean ====
section
/-!
DEFINITION. Which terms of Instr are instructions of IRDEC: the operands that a first match of 30_encoding.md R75
leaves for the two rows that match what the rows before them did not.
-/

namespace Sys2Proof

/-- The data words of the five commands (30_encoding.md R76). -/
def commandData : List Word := [0#32, 1#32, 2#32, 3#32, 4#32]

/-- The word indices a write to which is not ignored: CMD and the five CFG registers (20_memory.md R52, R75). -/
def writableWords : List WordIndex := [0x000#10, 0x010#10, 0x011#10, 0x012#10, 0x013#10, 0x014#10]

/-- A well-formed instruction: CMD_RESERVED holds no command's data word (R194), and WR_IGNORED no writable
address (R188). Every operand value of every other row is legal. -/
def Instr.wellFormed : Instr → Bool
  | .cmdReserved d => !commandData.contains d
  | .wrIgnored a _ => !writableWords.contains (a.extractLsb' 2 10)
  | .rd _ => true
  | .nop => true
  | .start => true
  | .stop => true
  | .abort => true
  | .clrerr => true
  | .wrCfgIdle _ => true
  | .wrCfgWindow _ => true
  | .wrCfgFloor _ => true
  | .wrCfgThresh _ => true
  | .wrCfgRefract _ => true
  | .smp _ _ => true

end Sys2Proof
end

