-- ==== Sys2Proof/Decode.lean ====
section
/-!
DEFINITION. The decoder of the two formats, total on every 45-bit BUS word and every 65-bit SAMPLE word
(30_encoding.md R75), the encoder written from the same formats (R71, R72), and the opcode table as data.
-/

namespace Sys2Proof

/-! ## Fields (30_encoding.md R71, R72; 20_memory.md R51) -/

/-- W, bit 44 of a BUS word: a write. -/
def busIsWrite (w : BusWord) : Bool := w.getLsbD 44
/-- A, bits 43 to 32 of a BUS word. -/
def busAddr (w : BusWord) : Addr := w.extractLsb' 32 12
/-- D, bits 31 to 0 of a BUS word. -/
def busData (w : BusWord) : Word := w.extractLsb' 0 32
/-- `A[11:2]`, the word an address selects; `A[1:0]` are ignored. -/
def wordIndex (a : Addr) : WordIndex := a.extractLsb' 2 10
/-- L, bit 64 of a SAMPLE word. -/
def sampleLevel (w : SampleWord) : Bool := w.getLsbD 64
/-- T, bits 63 to 0 of a SAMPLE word. -/
def sampleTime (w : SampleWord) : Time := w.extractLsb' 0 64

/-! ## Decoder -/

/-- A CMD write, by its data word (30_encoding.md R75 lines 2 to 7, R76, R77). -/
def decodeCommand (d : Word) : Instr :=
  if d = 0#32 then .nop
  else if d = 1#32 then .start
  else if d = 2#32 then .stop
  else if d = 3#32 then .abort
  else if d = 4#32 then .clrerr
  else .cmdReserved d

/-- A bus write, by the word it selects (30_encoding.md R75 lines 2 to 13). -/
def decodeWrite (a : Addr) (d : Word) : Instr :=
  if wordIndex a = 0x000#10 then decodeCommand d
  else if wordIndex a = 0x010#10 then .wrCfgIdle d
  else if wordIndex a = 0x011#10 then .wrCfgWindow d
  else if wordIndex a = 0x012#10 then .wrCfgFloor d
  else if wordIndex a = 0x013#10 then .wrCfgThresh d
  else if wordIndex a = 0x014#10 then .wrCfgRefract d
  else .wrIgnored a d

/-- The decoder of BUS words, total (30_encoding.md R75). -/
def decodeBus (w : BusWord) : Instr :=
  if busIsWrite w then decodeWrite (busAddr w) (busData w) else .rd (busAddr w)

/-- The decoder of SAMPLE words: every one is SMP (30_encoding.md R75). -/
def decodeSample (w : SampleWord) : Instr := .smp (sampleLevel w) (sampleTime w)

/-- The decoder: the port gives the format (30_encoding.md R70). -/
def decodeWire : WireWord → Instr
  | .bus w => decodeBus w
  | .sample w => decodeSample w

/-! ## Encoder -/

/-- A BUS word from its fields: `W<<44 | A<<32 | D` (30_encoding.md R71). -/
def busWord (write : Bool) (a : Addr) (d : Word) : BusWord :=
  (BitVec.ofBool write).setWidth 45 <<< 44 ||| a.setWidth 45 <<< 32 ||| d.setWidth 45

/-- A SAMPLE word from its fields: `L<<64 | T` (30_encoding.md R72). -/
def sampleWord (l : Bool) (t : Time) : SampleWord :=
  (BitVec.ofBool l).setWidth 65 <<< 64 ||| t.setWidth 65

/-- The encoder. Ignored bits are written as 0 (30_encoding.md R71; log entry 14). -/
def encode : Instr → WireWord
  | .rd a => .bus (busWord false a 0#32)
  | .nop => .bus (busWord true 0x000#12 0#32)
  | .start => .bus (busWord true 0x000#12 1#32)
  | .stop => .bus (busWord true 0x000#12 2#32)
  | .abort => .bus (busWord true 0x000#12 3#32)
  | .clrerr => .bus (busWord true 0x000#12 4#32)
  | .cmdReserved d => .bus (busWord true 0x000#12 d)
  | .wrCfgIdle d => .bus (busWord true 0x040#12 d)
  | .wrCfgWindow d => .bus (busWord true 0x044#12 d)
  | .wrCfgFloor d => .bus (busWord true 0x048#12 d)
  | .wrCfgThresh d => .bus (busWord true 0x04C#12 d)
  | .wrCfgRefract d => .bus (busWord true 0x050#12 d)
  | .wrIgnored a d => .bus (busWord true a d)
  | .smp l t => .sample (sampleWord l t)

/-! ## The opcode table -/

/-- A BUS row of opcode_table.json: a word belongs to it when its masked bits are the match bits. -/
structure TableRow where
  mnemonic : String
  matchBits : BusWord
  mask : BusWord
  deriving DecidableEq, Repr

/-- The 13 BUS rows of opcode_table.json, in its order of priority (30_encoding.md R75). -/
def busTable : List TableRow :=
  [ ⟨"RD", 0x000000000000#45, 0x100000000000#45⟩,
    ⟨"NOP", 0x100000000000#45, 0x1FFCFFFFFFFF#45⟩,
    ⟨"START", 0x100000000001#45, 0x1FFCFFFFFFFF#45⟩,
    ⟨"STOP", 0x100000000002#45, 0x1FFCFFFFFFFF#45⟩,
    ⟨"ABORT", 0x100000000003#45, 0x1FFCFFFFFFFF#45⟩,
    ⟨"CLRERR", 0x100000000004#45, 0x1FFCFFFFFFFF#45⟩,
    ⟨"CMD_RESERVED", 0x100000000000#45, 0x1FFC00000000#45⟩,
    ⟨"WR_CFG_IDLE", 0x104000000000#45, 0x1FFC00000000#45⟩,
    ⟨"WR_CFG_WINDOW", 0x104400000000#45, 0x1FFC00000000#45⟩,
    ⟨"WR_CFG_FLOOR", 0x104800000000#45, 0x1FFC00000000#45⟩,
    ⟨"WR_CFG_THRESH", 0x104C00000000#45, 0x1FFC00000000#45⟩,
    ⟨"WR_CFG_REFRACT", 0x105000000000#45, 0x1FFC00000000#45⟩,
    ⟨"WR_IGNORED", 0x100000000000#45, 0x100000000000#45⟩ ]

/-- The first row of the table that a BUS word matches (30_encoding.md R75). -/
def firstTableMatch (w : BusWord) : Option String :=
  (busTable.find? fun r => w &&& r.mask == r.matchBits).map (·.mnemonic)

/-- The table's name of an instruction. -/
def mnemonicOf : Instr → String
  | .rd _ => "RD"
  | .nop => "NOP"
  | .start => "START"
  | .stop => "STOP"
  | .abort => "ABORT"
  | .clrerr => "CLRERR"
  | .cmdReserved _ => "CMD_RESERVED"
  | .wrCfgIdle _ => "WR_CFG_IDLE"
  | .wrCfgWindow _ => "WR_CFG_WINDOW"
  | .wrCfgFloor _ => "WR_CFG_FLOOR"
  | .wrCfgThresh _ => "WR_CFG_THRESH"
  | .wrCfgRefract _ => "WR_CFG_REFRACT"
  | .wrIgnored _ _ => "WR_IGNORED"
  | .smp _ _ => "SMP"

/-! ## Words given as a number of bits (the host's table words) -/

/-- Why a number of bits is no word of IRDEC. -/
inductive FrameReject where
  /-- Longer than the longest format, 65 bits in whole bytes (30_encoding.md R70). -/
  | noFormatOfThisLength (nbits : Nat)
  /-- A bit above the format's highest bit is set (R71: 44, R72: 64). -/
  | bitsAboveFormat (w : Nat)
  deriving DecidableEq, Repr

/-- The word that `nbits` bits of the number `w` are: up to 48 bits a BUS word (45 bits), up to 72 bits a SAMPLE word
(65 bits). On the wire the port says which (30_encoding.md R70); for a bare number its length does (log entry 10). -/
def frameOf (nbits w : Nat) : Except FrameReject WireWord :=
  if nbits ≤ 48 then
    if w < 2 ^ 45 then .ok (.bus (BitVec.ofNat 45 w)) else .error (.bitsAboveFormat w)
  else if nbits ≤ 72 then
    if w < 2 ^ 65 then .ok (.sample (BitVec.ofNat 65 w)) else .error (.bitsAboveFormat w)
  else .error (.noFormatOfThisLength nbits)

/-- The instruction the decoder reads from a word given as a number. -/
def decodeTableWord (nbits w : Nat) : Option Instr :=
  match frameOf nbits w with
  | .ok ww => some (decodeWire ww)
  | .error _ => none

end Sys2Proof
end

