-- ==== Sys2Proof/Config.lean ====
section
/-!
DEFINITION. What is fixed when the block is built (00_scope.md R6), and the reset values of the CFG registers.
The spec leaves no value open that an operation reads (70_reset_and_hazards.md R242), so there is no free value here.
-/

namespace Sys2Proof.Config

/-- The elaboration parameters. `nLeader` is N_LEADER, 0 to 32 (00_scope.md R6, 92_eei_decisions.md D16). The record
is carried in State and no event changes it, so a statement about every state is about every build (log entry 4). -/
structure Params where
  nLeader : Fin 33
  deriving DecidableEq, Repr

/-- The build with the default N_LEADER = 1 (00_scope.md R6). -/
def defaultParams : Params := ⟨1⟩

/-- N_DATA, the data bits of a code (00_scope.md R6). -/
def nData : Nat := 32

/-- S, the number of pulse slots: N_LEADER + N_DATA (00_scope.md R6). -/
def Params.slots (p : Params) : Nat := p.nLeader.val + nData

/-- Reset value of CFG_IDLE, in µs (10_state.md R36). -/
def cfgIdleReset : Word := 1000000#32
/-- Reset value of CFG_WINDOW, in µs (10_state.md R37). -/
def cfgWindowReset : Word := 200000#32
/-- Reset value of CFG_FLOOR, in µs (10_state.md R38). -/
def cfgFloorReset : Word := 100#32
/-- Reset value of CFG_THRESH, in µs (10_state.md R39). -/
def cfgThreshReset : Word := 1000#32
/-- Reset value of CFG_REFRACT, in µs (10_state.md R40). -/
def cfgRefractReset : Word := 200000#32

end Sys2Proof.Config
end

