-- ==== Sys2Proof/Machine/State.lean ====
section
/-!
DEFINITION. The state of IRDEC (10_state.md R20 to R46), its ports, and the state after reset.
-/

namespace Sys2Proof.Machine

/-- The values of STATE that are ever written (10_state.md R22). -/
inductive Sequencer where
  /-- 0: no loop running; samples ignored. -/
  | stopped
  /-- 1: a cycle waits for the idle level or the idle timeout. -/
  | idleWait
  /-- 2: capture window open, line last seen low. -/
  | captGap
  /-- 3: capture window open, a pulse is being measured. -/
  | captHigh
  /-- 7: start-up input failure; only reset leaves it. -/
  | fault
  deriving DecidableEq, Repr

/-- The values of OUT_KIND that are ever written (10_state.md R30). -/
inductive OutKind where
  /-- 0: no cycle has ended since reset. -/
  | none
  /-- 1: the idle wait timed out. -/
  | noSignal
  /-- 2: the window closed with fewer than S pulses. -/
  | insufficient
  /-- 3: a code was decoded and accepted. -/
  | accepted
  /-- 4: a code was decoded and suppressed. -/
  | suppressed
  /-- 5: ABORT ended the cycle. -/
  | aborted
  deriving DecidableEq, Repr

/-- The five configuration registers (10_state.md R36 to R40). -/
inductive CfgReg where
  | idle
  | window
  | floor
  | thresh
  | refract
  deriving DecidableEq, Repr

/-- One event on the output port: `evt_code` and `evt_time` (43_debounce.md R163). -/
structure Emission where
  code : Word
  time : Time
  deriving DecidableEq, Repr

/-- An event of a run (40_cycle_fsm.md R101): a word on the bus or sample port, or RESET. -/
inductive PortEvent where
  | word (w : WireWord)
  | reset
  deriving DecidableEq, Repr

/-- An event and the level of the port `in_avail` at its instant (10_state.md R41, 44_host_interface.md R190). -/
structure Arrival where
  inAvail : Bool
  event : PortEvent
  deriving DecidableEq, Repr

/-- The whole machine: the elements of R20, the ghost LAST_T of R45, the ports of R41, and the build's parameters.
A level or flag is a Bool, `true` being 1. -/
structure State where
  /-- N_LEADER of the build; no event changes it. -/
  params : Config.Params
  /-- STATE (R22). -/
  seq : Sequencer
  /-- STOP_PEND (R23). -/
  stopPend : Bool
  /-- T0_VALID (R24). -/
  t0Valid : Bool
  /-- T0 (R24). -/
  t0 : Time
  /-- WS (R25). -/
  ws : Time
  /-- PS (R26). -/
  ps : Time
  /-- PCOUNT (R27). -/
  pcount : BitVec 16
  /-- PW[0..S-1] (R28), slot 0 first. -/
  pw : List Word
  /-- DB_VALID (R29). -/
  dbValid : Bool
  /-- DB_CODE (R29). -/
  dbCode : Word
  /-- DB_TIME (R29). -/
  dbTime : Time
  /-- OUT_KIND (R30). -/
  outKind : OutKind
  /-- OUT_SEQ (R31). -/
  outSeq : BitVec 16
  /-- OUT_CODE (R32). -/
  outCode : Word
  /-- OUT_TIME (R33). -/
  outTime : Time
  /-- EVT_COUNT (R34). -/
  evtCount : Word
  /-- CMD_ERR (R35). -/
  cmdErr : Bool
  /-- CFG_ERR (R35). -/
  cfgErr : Bool
  /-- INIT_FAULT (R35). -/
  initFault : Bool
  /-- CFG_IDLE (R36). -/
  cfgIdle : Word
  /-- CFG_WINDOW (R37). -/
  cfgWindow : Word
  /-- CFG_FLOOR (R38). -/
  cfgFloor : Word
  /-- CFG_THRESH (R39). -/
  cfgThresh : Word
  /-- CFG_REFRACT (R40). -/
  cfgRefract : Word
  /-- The ghost LAST_T, the timestamp of the most recent sample, none before any (R45). -/
  lastT : Option Time
  /-- The port level `in_avail` at the instant of the event being taken (R41). -/
  inAvail : Bool
  /-- The events still to arrive, oldest first: any sequence, so any interleaving of host, sampler and reset (R101). -/
  pending : List Arrival
  /-- What the bus returns to the host for the event just taken: the value of a read, none for any other event (R180). -/
  rdata : Option Word
  /-- The event port during the event just taken: `evt_valid` with `evt_code` and `evt_time`, or not valid (R163). -/
  evtOut : Option Emission
  /-- Every event put on the event port so far, oldest first: the append-only trace of R163. -/
  trace : List Emission
  deriving DecidableEq, Repr

/-- Where the block has no step. Both stops are safe: no state is reached, so nothing false can be shown of it. -/
inductive Fault where
  /-- Raised by `step` when no event is pending: the block takes no step on its own (40_cycle_fsm.md R100). Safe. -/
  | noEvent
  /-- Raised by SMP when its timestamp is below LAST_T: the event has no step (40_cycle_fsm.md R102). Safe. -/
  | decreasingTimestamp
  deriving DecidableEq, Repr

/-- Why the model gives an instruction no meaning. Safe. -/
inductive Refusal where
  /-- Raised only by an arm of `exec` whose instruction has no meaning yet; no arm raises it in this model. -/
  | notModelled (mnemonic : String)
  deriving DecidableEq, Repr

/-- The start of a run: every element of R20 at its reset value (70_reset_and_hazards.md R240), the default build,
LAST_T none (R45), and the ports at the values of log entries 1, 6, 7 and 8. -/
def State.reset : State where
  params := Config.defaultParams
  seq := .stopped
  stopPend := false
  t0Valid := false
  t0 := 0#64
  ws := 0#64
  ps := 0#64
  pcount := 0#16
  pw := List.replicate Config.defaultParams.slots 0#32
  dbValid := false
  dbCode := 0#32
  dbTime := 0#64
  outKind := .none
  outSeq := 0#16
  outCode := 0#32
  outTime := 0#64
  evtCount := 0#32
  cmdErr := false
  cfgErr := false
  initFault := false
  cfgIdle := Config.cfgIdleReset
  cfgWindow := Config.cfgWindowReset
  cfgFloor := Config.cfgFloorReset
  cfgThresh := Config.cfgThreshReset
  cfgRefract := Config.cfgRefractReset
  lastT := none
  inAvail := true
  pending := []
  rdata := none
  evtOut := none
  trace := []

end Sys2Proof.Machine
end

