-- ==== Sys2Proof/Machine/Flags.lean ====
section
/-!
DEFINITION. The flags: the sticky error flags and how they are raised and cleared, RUNNING, and the STATUS word.
Raising a flag is all an error does: IRDEC has no traps (60_exceptions.md R210, R219).
-/

namespace Sys2Proof.Machine

/-- `raise CmdErr`: CMD_ERR <- 1 (00_scope.md R10, 60_exceptions.md R211). -/
def raiseCmdErr (s : State) : State := { s with cmdErr := true }

/-- `raise CfgErr`: CFG_ERR <- 1 (00_scope.md R10, 60_exceptions.md R211). -/
def raiseCfgErr (s : State) : State := { s with cfgErr := true }

/-- `raise InitFault`: INIT_FAULT <- 1 (00_scope.md R10, 60_exceptions.md R211). -/
def raiseInitFault (s : State) : State := { s with initFault := true }

/-- CMD_ERR <- 0 and CFG_ERR <- 0; INIT_FAULT stays (44_host_interface.md R193). -/
def clearErrors (s : State) : State := { s with cmdErr := false, cfgErr := false }

/-- The number a value of STATE is encoded by (10_state.md R22). -/
def seqCode : Sequencer → Word
  | .stopped => 0#32
  | .idleWait => 1#32
  | .captGap => 2#32
  | .captHigh => 3#32
  | .fault => 7#32

/-- The number an outcome is encoded by (10_state.md R30). -/
def outKindCode : OutKind → Word
  | .none => 0#32
  | .noSignal => 1#32
  | .insufficient => 2#32
  | .accepted => 3#32
  | .suppressed => 4#32
  | .aborted => 5#32

/-- RUNNING: STATE is IDLE_WAIT, CAPT_GAP or CAPT_HIGH (10_state.md R42). -/
def running (s : State) : Bool :=
  match s.seq with
  | .idleWait | .captGap | .captHigh => true
  | .stopped | .fault => false

/-- A 1-bit field at bit `i` of a register, every other bit 0. -/
def bitAt (i : Nat) (b : Bool) : Word := (BitVec.ofBool b).setWidth 32 <<< i

/-- The STATUS register: STATE in [2:0], RUNNING in [3], STOP_PEND in [4], CMD_ERR in [8], CFG_ERR in [9],
INIT_FAULT in [10], every other bit 0 (10_state.md R42). -/
def statusWord (s : State) : Word :=
  seqCode s.seq ||| bitAt 3 (running s) ||| bitAt 4 s.stopPend ||| bitAt 8 s.cmdErr ||| bitAt 9 s.cfgErr
    ||| bitAt 10 s.initFault

/-- The RESULT register: OUT_KIND in [2:0], OUT_SEQ in [31:16], every other bit 0 (10_state.md R43). -/
def resultWord (s : State) : Word :=
  outKindCode s.outKind ||| s.outSeq.setWidth 32 <<< 16

end Sys2Proof.Machine
end

