-- ==== Sys2Proof/Machine/Operands.lean ====
section
/-!
DEFINITION. The operand forms of the rules: pulse slots, intervals between timestamps, saturation (00_scope.md R10).
-/

namespace Sys2Proof.Machine

/-- `PW[i]`, a pulse slot (10_state.md R28). -/
def slot (s : State) (i : Nat) : Word := s.pw.getD i 0#32

/-- Every slot at 0 (10_state.md R28, 41_acquirer.md R121). -/
def clearedSlots (p : Config.Params) : List Word := List.replicate p.slots 0#32

/-- `t - r`, exact where `t >= r`, the only case the rules use it in (00_scope.md R9, 40_cycle_fsm.md R102;
log entry 12). -/
def since (r t : Time) : Nat := t.toNat - r.toNat

/-- `elapsed(r, t, P)`: at least P µs separate r and t (40_cycle_fsm.md R105). -/
def elapsed (r t : Time) (p : Word) : Bool := decide (p.toNat ≤ since r t)

/-- `sat32(d)` (00_scope.md R10). -/
def sat32 (d : Nat) : Word := BitVec.ofNat 32 (min d 0xFFFFFFFF)

/-- `sat16(n)` (00_scope.md R10). -/
def sat16 (n : Nat) : BitVec 16 := BitVec.ofNat 16 (min n 0xFFFF)

/-- The premise of a sample event: LAST_T is none or t is not below it (40_cycle_fsm.md R102, R106). -/
def inOrder (s : State) (t : Time) : Bool :=
  match s.lastT with
  | none => true
  | some u => decide (u.toNat ≤ t.toNat)

end Sys2Proof.Machine
end

