-- ==== Sys2Proof/Machine/Ops.lean ====
section
/-!
DEFINITION. The operations over the register space and the state that several events share: reading a register,
writing a CFG register, ending a cycle, emitting an event, RESET, and taking an arrival.
-/

namespace Sys2Proof.Machine

/-- The PARAM register: N_LEADER in [7:0], N_DATA = 32 in [15:8], S in [23:16] (10_state.md R44). -/
def paramWord (p : Config.Params) : Word :=
  BitVec.ofNat 32 p.nLeader.val ||| BitVec.ofNat 32 Config.nData <<< 8 ||| BitVec.ofNat 32 p.slots <<< 16

/-- `ReadValue(W)` (44_host_interface.md R181): one case per register of the map 20_memory.md R52; PW_i at
`0x040 + i`; CMD, reserved words and slots at S or above read 0 (R54). -/
def readValue (s : State) (w : WordIndex) : Word :=
  if w = 0x001#10 then statusWord s
  else if w = 0x002#10 then resultWord s
  else if w = 0x003#10 then s.outCode
  else if w = 0x004#10 then s.outTime.extractLsb' 0 32
  else if w = 0x005#10 then s.outTime.extractLsb' 32 32
  else if w = 0x006#10 then s.evtCount
  else if w = 0x007#10 then s.pcount.setWidth 32
  else if w = 0x008#10 then bitAt 0 s.dbValid
  else if w = 0x009#10 then s.dbCode
  else if w = 0x00A#10 then s.dbTime.extractLsb' 0 32
  else if w = 0x00B#10 then s.dbTime.extractLsb' 32 32
  else if w = 0x010#10 then s.cfgIdle
  else if w = 0x011#10 then s.cfgWindow
  else if w = 0x012#10 then s.cfgFloor
  else if w = 0x013#10 then s.cfgThresh
  else if w = 0x014#10 then s.cfgRefract
  else if w = 0x015#10 then paramWord s.params
  else if 0x040 ≤ w.toNat ∧ w.toNat < 0x040 + s.params.slots then slot s (w.toNat - 0x040)
  else 0#32

/-- `MemRead(A, 4)`: the register at a byte address (44_host_interface.md R180). -/
def readAddr (s : State) (a : Addr) : Word := readValue s (wordIndex a)

/-- Store into a configuration register (10_state.md R36 to R40). -/
def setCfg (r : CfgReg) (d : Word) (s : State) : State :=
  match r with
  | .idle => { s with cfgIdle := d }
  | .window => { s with cfgWindow := d }
  | .floor => { s with cfgFloor := d }
  | .thresh => { s with cfgThresh := d }
  | .refract => { s with cfgRefract := d }

/-- `CfgWrite(X, D)`: stored only in STOPPED, otherwise dropped with CFG_ERR (44_host_interface.md R182). -/
def cfgWrite (r : CfgReg) (d : Word) (s : State) : State :=
  if s.seq = .stopped then setCfg r d s else raiseCfgErr s

/-- `finish(k, t)`: record the outcome and end the cycle, in STOPPED when a stop is pending and else at the top of the
next cycle (40_cycle_fsm.md R107). -/
def finish (k : OutKind) (t : Time) (s : State) : State :=
  { s with
    outKind := k
    outSeq := s.outSeq + 1#16
    outTime := t
    t0Valid := false
    stopPend := false
    seq := if s.stopPend then .stopped else .idleWait }

/-- `emit(code, t)`: the event port is valid for this event, and the trace gains the pair (43_debounce.md R163). -/
def emit (code : Word) (t : Time) (s : State) : State :=
  { s with evtOut := some ⟨code, t⟩, trace := s.trace ++ [⟨code, t⟩] }

/-- RESET: every element of 10_state.md R20 to its reset value; LAST_T, the ports, the trace and the build are
unchanged (70_reset_and_hazards.md R240). -/
def resetEvent (s : State) : State :=
  { s with
    seq := .stopped
    stopPend := false
    t0Valid := false
    t0 := 0#64
    ws := 0#64
    ps := 0#64
    pcount := 0#16
    pw := clearedSlots s.params
    dbValid := false
    dbCode := 0#32
    dbTime := 0#64
    outKind := .none
    outSeq := 0#16
    outCode := 0#32
    outTime := 0#64
    evtCount := 0#32
    cmdErr := false
    cfgErr := false
    initFault := false
    cfgIdle := Config.cfgIdleReset
    cfgWindow := Config.cfgWindowReset
    cfgFloor := Config.cfgFloorReset
    cfgThresh := Config.cfgThreshReset
    cfgRefract := Config.cfgRefractReset }

/-- Take an arrival: it leaves the list, `in_avail` has its level, and the output ports carry nothing yet
(43_debounce.md R163: `evt_valid` is asserted for its event only; log entries 1 and 7). -/
def receive (inAvail : Bool) (rest : List Arrival) (s : State) : State :=
  { s with inAvail := inAvail, pending := rest, rdata := none, evtOut := none }

end Sys2Proof.Machine
end

