-- ==== Sys2Proof/Machine/Commands.lean ====
section
/-!
DEFINITION. The meanings of the CMD writes (44_host_interface.md R189 to R194).
-/

namespace Sys2Proof.Machine

/-- What START writes when the input is available: a running loop with fresh per-loop state (44_host_interface.md R190). -/
def startLoop (s : State) : State :=
  { s with
    dbValid := false
    dbCode := 0#32
    dbTime := 0#64
    evtCount := 0#32
    stopPend := false
    t0Valid := false
    seq := .idleWait }

/-- What ABORT writes in a running loop (44_host_interface.md R192). -/
def abortLoop (s : State) : State :=
  { s with seq := .stopped, stopPend := false, t0Valid := false, outKind := .aborted, outSeq := s.outSeq + 1#16 }

/-- What STOP does: at the top of a cycle the loop stops at once, in a running cycle the request waits in STOP_PEND
(44_host_interface.md R191). -/
def requestStop (s : State) : State :=
  if s.seq = .idleWait ∧ s.t0Valid = false then { s with seq := .stopped }
  else if running s then { s with stopPend := true }
  else s

/-- NOP (44_host_interface.md R189). -/
def execNop (s : State) : Host.Outcome State Fault Refusal := .next s

/-- START (44_host_interface.md R190). -/
def execStart (s : State) : Host.Outcome State Fault Refusal :=
  .next (
    if s.seq = .stopped then
      if s.inAvail then startLoop s else { raiseInitFault s with seq := .fault }
    else raiseCmdErr s)

/-- STOP (44_host_interface.md R191). -/
def execStop (s : State) : Host.Outcome State Fault Refusal := .next (requestStop s)

/-- ABORT (44_host_interface.md R192). -/
def execAbort (s : State) : Host.Outcome State Fault Refusal := .next (if running s then abortLoop s else s)

/-- CLRERR (44_host_interface.md R193). -/
def execClrerr (s : State) : Host.Outcome State Fault Refusal := .next (clearErrors s)

/-- CMD_RESERVED (44_host_interface.md R194). -/
def execCmdReserved (_d : Word) (s : State) : Host.Outcome State Fault Refusal := .next (raiseCmdErr s)

end Sys2Proof.Machine
end

