-- ==== Sys2Proof/Machine/Registers.lean ====
section
/-!
DEFINITION. The meanings of the register transactions: RD, the CFG writes and WR_IGNORED (44_host_interface.md R180
to R188).
-/

namespace Sys2Proof.Machine

/-- RD: the bus returns the register's value; no state changes (44_host_interface.md R180). -/
def execRd (a : Addr) (s : State) : Host.Outcome State Fault Refusal :=
  .next { s with rdata := some (readAddr s a) }

/-- WR_CFG_IDLE (44_host_interface.md R183). -/
def execWrCfgIdle (d : Word) (s : State) : Host.Outcome State Fault Refusal := .next (cfgWrite .idle d s)

/-- WR_CFG_WINDOW (44_host_interface.md R184). -/
def execWrCfgWindow (d : Word) (s : State) : Host.Outcome State Fault Refusal := .next (cfgWrite .window d s)

/-- WR_CFG_FLOOR (44_host_interface.md R185). -/
def execWrCfgFloor (d : Word) (s : State) : Host.Outcome State Fault Refusal := .next (cfgWrite .floor d s)

/-- WR_CFG_THRESH (44_host_interface.md R186). -/
def execWrCfgThresh (d : Word) (s : State) : Host.Outcome State Fault Refusal := .next (cfgWrite .thresh d s)

/-- WR_CFG_REFRACT (44_host_interface.md R187). -/
def execWrCfgRefract (d : Word) (s : State) : Host.Outcome State Fault Refusal := .next (cfgWrite .refract d s)

/-- WR_IGNORED: no effect and no flag (44_host_interface.md R188). -/
def execWrIgnored (_a : Addr) (_d : Word) (s : State) : Host.Outcome State Fault Refusal := .next s

end Sys2Proof.Machine
end

