-- ==== Sys2Proof/Machine/Debounce.lean ====
section
/-!
DEFINITION. The debounce comparator and the event output (43_debounce.md).
-/

namespace Sys2Proof.Machine

/-- `Suppress(code, t)`: the last accepted code again, strictly less than CFG_REFRACT after it (43_debounce.md R160). -/
def suppress (code : Word) (t : Time) (s : State) : Bool :=
  s.dbValid && decide (s.dbCode = code) && decide (since s.dbTime t < s.cfgRefract.toNat)

/-- What acceptance writes: the debounce state and EVT_COUNT (43_debounce.md R161, R162). -/
def recordAcceptance (code : Word) (t : Time) (s : State) : State :=
  { s with dbValid := true, dbCode := code, dbTime := t, evtCount := s.evtCount + 1#32 }

/-- `DebounceStep(code, t)` (43_debounce.md R162). -/
def debounceStep (code : Word) (t : Time) (s : State) : State :=
  if suppress code t s then finish .suppressed t { s with outCode := code }
  else finish .accepted t (emit code t (recordAcceptance code t { s with outCode := code }))

end Sys2Proof.Machine
end

