-- ==== Sys2Proof/Machine/Decoder.lean ====
section
/-!
DEFINITION. The threshold symbol decoder (42_decoder.md).
-/

namespace Sys2Proof.Machine

/-- The sufficiency test: PCOUNT >= S (42_decoder.md R140). -/
def sufficient (s : State) : Bool := decide (s.params.slots ≤ s.pcount.toNat)

/-- `bit(j)`: data pulse j is strictly longer than CFG_THRESH; the leader slots are skipped (42_decoder.md R141). -/
def dataBit (s : State) (j : Nat) : Bool := decide (s.cfgThresh.toNat < (slot s (s.params.nLeader.val + j)).toNat)

/-- `Assemble()`: the sum of `bit(j) * 2^(31 - j)` over the 32 data pulses (42_decoder.md R142). -/
def assemble (s : State) : Word :=
  BitVec.ofNat 32 (((List.range Config.nData).map fun j => (dataBit s j).toNat * 2 ^ (31 - j)).sum)

/-- `DecodeStep(t)` (42_decoder.md R143). -/
def decodeStep (t : Time) (s : State) : State :=
  if sufficient s then debounceStep (assemble s) t s else finish .insufficient t s

end Sys2Proof.Machine
end

