-- ==== Sys2Proof/Machine/Acquirer.lean ====
section
/-!
DEFINITION. The pulse-width detector: the sample rules of the three running states (41_acquirer.md).
-/

namespace Sys2Proof.Machine

/-- `ConfirmIdle(t)`: the capture window starts with an empty pulse store (41_acquirer.md R121). -/
def confirmIdle (t : Time) (s : State) : State :=
  { s with ws := t, pcount := 0#16, pw := clearedSlots s.params, seq := .captGap }

/-- `RecordPulse(d)`: a pulse whose saturated duration exceeds CFG_FLOOR is counted, and stored while a slot is free
(41_acquirer.md R125). -/
def recordPulse (d : Nat) (s : State) : State :=
  if s.cfgFloor.toNat < (sat32 d).toNat then
    { s with
      pw := if s.pcount.toNat < s.params.slots then s.pw.set s.pcount.toNat (sat32 d) else s.pw
      pcount := sat16 (s.pcount.toNat + 1) }
  else s

/-- `CloseWindow(t)`: decode in the same event (41_acquirer.md R126). -/
def closeWindow (t : Time) (s : State) : State := decodeStep t s

/-- The first sample of a cycle gives T0 (41_acquirer.md R120, 10_state.md R24). -/
def startIdleWait (t : Time) (s : State) : State :=
  if s.t0Valid then s else { s with t0 := t, t0Valid := true }

/-- `IdleWaitSample(L, t)`: the level is tested before the timeout (41_acquirer.md R120, R122). -/
def idleWaitSample (l : Bool) (t : Time) (s : State) : State :=
  let s1 := startIdleWait t s
  if !l then confirmIdle t s1
  else if elapsed s1.t0 t s1.cfgIdle then finish .noSignal t s1
  else s1

/-- `GapSample(L, t)`: the window is tested before the level (41_acquirer.md R123). -/
def gapSample (l : Bool) (t : Time) (s : State) : State :=
  if elapsed s.ws t s.cfgWindow then closeWindow t s
  else if l then { s with ps := t, seq := .captHigh }
  else s

/-- `HighSample(L, t)`: a pulse ends at a low sample or at the window's end, is recorded, and only then may the window
close (41_acquirer.md R124). -/
def highSample (l : Bool) (t : Time) (s : State) : State :=
  if elapsed s.ws t s.cfgWindow then closeWindow t (recordPulse (since s.ps t) s)
  else if l then s
  else { recordPulse (since s.ps t) s with seq := .captGap }

/-- `OnSample(L, t)` after LAST_T is written: dispatch on STATE (40_cycle_fsm.md R106, R108). -/
def onSample (l : Bool) (t : Time) (s : State) : State :=
  match s.seq with
  | .stopped => s
  | .fault => s
  | .idleWait => idleWaitSample l t s
  | .captGap => gapSample l t s
  | .captHigh => highSample l t s

end Sys2Proof.Machine
end

