-- ==== Sys2Proof/Machine/Sample.lean ====
section
/-!
DEFINITION. The meaning of SMP (40_cycle_fsm.md R106).
-/

namespace Sys2Proof.Machine

/-- SMP: LAST_T is written and the sample is dispatched on STATE; a timestamp below LAST_T has no step
(40_cycle_fsm.md R102, R106). -/
def execSmp (l : Bool) (t : Time) (s : State) : Host.Outcome State Fault Refusal :=
  if inOrder s t then .next (onSample l t { s with lastT := some t }) else .fault .decreasingTimestamp

end Sys2Proof.Machine
end

