-- ==== Sys2Proof/Machine/Dispatch.lean ====
section
/-!
DEFINITION. The meaning of every instruction: one arm per constructor of Instr.
-/

namespace Sys2Proof.Machine

def exec (i : Instr) (s : State) : Host.Outcome State Fault Refusal :=
  match i with
  | .rd a => Sys2Proof.Machine.execRd a s
  | .nop => Sys2Proof.Machine.execNop s
  | .start => Sys2Proof.Machine.execStart s
  | .stop => Sys2Proof.Machine.execStop s
  | .abort => Sys2Proof.Machine.execAbort s
  | .clrerr => Sys2Proof.Machine.execClrerr s
  | .cmdReserved d => Sys2Proof.Machine.execCmdReserved d s
  | .wrCfgIdle d => Sys2Proof.Machine.execWrCfgIdle d s
  | .wrCfgWindow d => Sys2Proof.Machine.execWrCfgWindow d s
  | .wrCfgFloor d => Sys2Proof.Machine.execWrCfgFloor d s
  | .wrCfgThresh d => Sys2Proof.Machine.execWrCfgThresh d s
  | .wrCfgRefract d => Sys2Proof.Machine.execWrCfgRefract d s
  | .wrIgnored a d => Sys2Proof.Machine.execWrIgnored a d s
  | .smp l t => Sys2Proof.Machine.execSmp l t s

end Sys2Proof.Machine
end

