-- ==== Sys2Proof/Machine/Step.lean ====
section
/-!
DEFINITION. One step: the oldest pending event, taken whole (40_cycle_fsm.md R101).
-/

namespace Sys2Proof.Machine

/-- One event of the run: a word is decoded and executed, RESET resets; with no event there is no step (R100, R101). -/
def step (s : State) : Host.Outcome State Fault Refusal :=
  match s.pending with
  | [] => .fault .noEvent
  | ⟨av, .word w⟩ :: rest => exec (decodeWire w) (receive av rest s)
  | ⟨av, .reset⟩ :: rest => .next (resetEvent (receive av rest s))

/-- The state with a table word as its next event, `in_avail` as it stands (log entries 1 and 10). A number that is no
word of IRDEC places nothing. -/
def State.withFetchWord (s : State) (nbits w : Nat) : State :=
  match frameOf nbits w with
  | .ok ww => { s with pending := ⟨s.inAvail, .word ww⟩ :: s.pending }
  | .error _ => s

end Sys2Proof.Machine
end

