-- ==== Sys2Proof/Safety.lean ====
section
/-!
DEFINITION. The terms claims about IRDEC are stated in: the coherence invariant of a state, runs of samples, the
source's PulseSequence and code, the transition table, and agreement of two states on what a cycle reads.
-/

namespace Sys2Proof.Machine

/-- The ghost LAST_T as a number, 0 before any sample (10_state.md R45). -/
def lastTime (s : State) : Nat :=
  match s.lastT with
  | none => 0
  | some t => t.toNat

/-- A capture window is open (40_cycle_fsm.md R103). -/
def capturing (s : State) : Bool :=
  match s.seq with
  | .captGap | .captHigh => true
  | .stopped | .idleWait | .fault => false

/-- What holds of the state between any two events: the facts the rules of 10_state.md R22 to R35 and 40_cycle_fsm.md
R102 rest on. -/
structure Coherent (s : State) : Prop where
  /-- PW has S slots (R28). -/
  slots : s.pw.length = s.params.slots
  /-- No recorded instant lies after the last sample, so `t - r` is exact (40_cycle_fsm.md R102). -/
  t0_past : s.t0.toNat ≤ lastTime s
  ws_past : s.ws.toNat ≤ lastTime s
  ps_past : s.ps.toNat ≤ lastTime s
  db_past : s.dbTime.toNat ≤ lastTime s
  out_past : s.outTime.toNat ≤ lastTime s
  trace_past : ∀ e ∈ s.trace, e.time.toNat ≤ lastTime s
  /-- Events appear in the order of their times (20_memory.md R62). -/
  trace_ordered : s.trace.Pairwise fun a b => a.time.toNat ≤ b.time.toNat
  /-- An absent last code reads 0, 0 (R29). -/
  db_absent : s.dbValid = false → s.dbCode = 0#32 ∧ s.dbTime = 0#64
  /-- A stop is pending only in a running cycle that has consumed a sample (R23). -/
  stop_running : s.stopPend = true → running s = true ∧ s.t0Valid = true
  /-- T0 is valid only in a running cycle, and always in a capture (R24). -/
  t0_running : s.t0Valid = true → running s = true
  t0_capturing : capturing s = true → s.t0Valid = true
  /-- INIT_FAULT and FAULT go together (R22, R35). -/
  fault_flag : s.initFault = true ↔ s.seq = .fault
  /-- Slots at PCOUNT or above hold 0 (41_acquirer.md R128). -/
  unused_zero : ∀ i, s.pcount.toNat ≤ i → slot s i = 0#32
  /-- During a capture every stored pulse exceeds the noise floor (41_acquirer.md R127). -/
  stored_above_floor : capturing s = true →
    ∀ i, i < s.pcount.toNat → i < s.params.slots → s.cfgFloor.toNat < (slot s i).toNat
  /-- The order of a cycle's instants (43_debounce.md R165). -/
  t0_ws : capturing s = true → s.t0.toNat ≤ s.ws.toNat
  ws_ps : s.seq = .captHigh → s.ws.toNat ≤ s.ps.toNat
  db_ws : capturing s = true → s.dbTime.toNat ≤ s.ws.toNat
  db_t0 : s.seq = .idleWait → s.t0Valid = true → s.dbTime.toNat ≤ s.t0.toNat
  out_ws : capturing s = true → s.outTime.toNat ≤ s.ws.toNat
  out_t0 : s.seq = .idleWait → s.t0Valid = true → s.outTime.toNat ≤ s.t0.toNat

/-! ## Runs: any interleaving of samples, host transactions and RESET (40_cycle_fsm.md R101) -/

/-- The sample that an arrival brings, none for a bus word or RESET. -/
def Arrival.sample? (a : Arrival) : Option (Bool × Time) :=
  match a.event with
  | .word (.sample w) => some (sampleLevel w, sampleTime w)
  | .word (.bus _) => none
  | .reset => none

/-- The samples among the events of a run, in their order. -/
def samplesOf (es : List Arrival) : List (Bool × Time) := es.filterMap Arrival.sample?

/-- The event is none of the two that end a running cycle without a sample: ABORT and RESET (40_cycle_fsm.md R104, R109). -/
def Arrival.keepsCycle (a : Arrival) : Bool :=
  match a.event with
  | .word w => decide (decodeWire w ≠ .abort)
  | .reset => false

/-- The event is a STOP (44_host_interface.md R191). -/
def Arrival.stops (a : Arrival) : Bool :=
  match a.event with
  | .word w => decide (decodeWire w = .stop)
  | .reset => false

/-- The step that an event takes when it arrives next, before whatever is pending. -/
def arrive (a : Arrival) (s : State) : Host.Outcome State Fault Refusal := step { s with pending := a :: s.pending }

/-- A finite run of events; none where one of them has no step. -/
def eventRun : List Arrival → State → Option State
  | [], s => some s
  | a :: es, s =>
    match arrive a s with
    | .next t => eventRun es t
    | .fault _ => none
    | .refused _ => none

/-- An infinite run: `st n` is the state before the event `ev n` (40_cycle_fsm.md R101). -/
def IsRun (ev : Nat → Arrival) (st : Nat → State) : Prop := ∀ n, arrive (ev n) (st n) = .next (st (n + 1))

/-- The fairness assumption on runs: while STATE is running, the sampler delivers samples whose timestamps grow beyond
every bound that a 64-bit timestamp can reach (40_cycle_fsm.md R109; log entries 15 and 19). -/
def FairSampler (ev : Nat → Arrival) (st : Nat → State) : Prop :=
  ∀ n, (∀ m, n ≤ m → running (st m) = true) →
    ∀ bound : Time, ∃ m, n ≤ m ∧ ∃ l t, (ev m).sample? = some (l, t) ∧ bound.toNat ≤ t.toNat

/-- The cycle that runs at `n` is still running at `m`: no event between them recorded an outcome or left the running
states (40_cycle_fsm.md R107). -/
def SameCycle (st : Nat → State) (n m : Nat) : Prop :=
  n ≤ m ∧ ∀ k, n ≤ k → k < m → running (st (k + 1)) = true ∧ (st (k + 1)).outSeq = (st k).outSeq

/-- When the period that a running cycle waits for elapses: the idle wait's or the window's (40_cycle_fsm.md R105). A cycle
that has consumed no sample waits for none. -/
def deadline (s : State) : Nat :=
  match s.seq with
  | .idleWait => if s.t0Valid then s.t0.toNat + s.cfgIdle.toNat else 0
  | .captGap | .captHigh => s.ws.toNat + s.cfgWindow.toNat
  | .stopped | .fault => 0

/-! ## The source's pulse sequence -/

/-- The durations of the high runs in the samples of a window that is closed at `tc`: each from the sample that first
saw it high to the sample that ended it (41_acquirer.md R128). `start` is the start of a run that is still high. -/
def highRuns (tc : Time) : Option Time → List (Bool × Time) → List Nat
  | none, [] => []
  | some p, [] => [since p tc]
  | none, (l, t) :: xs => highRuns tc (if l then some t else none) xs
  | some p, (l, t) :: xs => if l then highRuns tc (some p) xs else since p t :: highRuns tc none xs

/-- The source's PulseSequence of a window: the saturated durations that exceed the noise floor, in capture order
(41_acquirer.md R128). -/
def pulseSequence (floor : Word) (tc : Time) (xs : List (Bool × Time)) : List Word :=
  ((highRuns tc none xs).map sat32).filter fun w => decide (floor.toNat < w.toNat)

/-- The samples `xs`, from time `t` on, never decrease in time (40_cycle_fsm.md R102). -/
def Ordered (t : Time) : List (Bool × Time) → Prop
  | [] => True
  | x :: xs => t.toNat ≤ x.2.toNat ∧ Ordered x.2 xs

/-- The samples `xs`, from time `t` on, never decrease in time and are at most `g` µs apart (40_cycle_fsm.md R111). -/
def OrderedWithin (g : Nat) (t : Time) : List (Bool × Time) → Prop
  | [] => True
  | x :: xs => t.toNat ≤ x.2.toNat ∧ x.2.toNat ≤ t.toNat + g ∧ OrderedWithin g x.2 xs

/-- Where `finish` goes (40_cycle_fsm.md R104, R107). -/
def afterFinish (s : State) : Sequencer := if s.stopPend then .stopped else .idleWait

/-- The next STATE by the transition table of 40_cycle_fsm.md R104, for an event with `in_avail` at `av`; a row the table
does not list leaves STATE. -/
def transitionTable (s : State) (av : Bool) : PortEvent → Sequencer
  | .reset => .stopped
  | .word w =>
    match s.seq, decodeWire w with
    | .stopped, .start => if av then .idleWait else .fault
    | .idleWait, .stop => if s.t0Valid then .idleWait else .stopped
    | .idleWait, .abort => .stopped
    | .captGap, .abort => .stopped
    | .captHigh, .abort => .stopped
    | .idleWait, .smp l t =>
      if l = false then .captGap
      else if s.cfgIdle.toNat ≤ t.toNat - (if s.t0Valid then s.t0 else t).toNat then afterFinish s
      else .idleWait
    | .captGap, .smp l t =>
      if s.cfgWindow.toNat ≤ t.toNat - s.ws.toNat then afterFinish s else if l then .captHigh else .captGap
    | .captHigh, .smp l t =>
      if s.cfgWindow.toNat ≤ t.toNat - s.ws.toNat then afterFinish s else if l then .captHigh else .captGap
    | q, _ => q

/-- Two states agree on everything the rest of the running cycle and later cycles read (40_cycle_fsm.md R110): T0, WS,
PS, PCOUNT and PW count only while they are live, and no result register, flag or port does. -/
structure SameForCycles (s u : State) : Prop where
  params : s.params = u.params
  seq : s.seq = u.seq
  stopPend : s.stopPend = u.stopPend
  t0Valid : s.t0Valid = u.t0Valid
  t0 : s.t0Valid = true → s.t0 = u.t0
  ws : capturing s = true → s.ws = u.ws
  ps : s.seq = .captHigh → s.ps = u.ps
  pcount : capturing s = true → s.pcount = u.pcount
  pw : capturing s = true → s.pw = u.pw
  dbValid : s.dbValid = u.dbValid
  dbCode : s.dbCode = u.dbCode
  dbTime : s.dbTime = u.dbTime
  cfgIdle : s.cfgIdle = u.cfgIdle
  cfgWindow : s.cfgWindow = u.cfgWindow
  cfgFloor : s.cfgFloor = u.cfgFloor
  cfgThresh : s.cfgThresh = u.cfgThresh
  cfgRefract : s.cfgRefract = u.cfgRefract
  lastT : s.lastT = u.lastT

/-- The debounce state, the capture store, the result registers and the event port: what the host cannot write except
through a rule (44_host_interface.md R195). -/
def sameDatapath (s u : State) : Prop :=
  u.dbValid = s.dbValid ∧ u.dbCode = s.dbCode ∧ u.dbTime = s.dbTime ∧ u.pw = s.pw ∧ u.pcount = s.pcount ∧
  u.outKind = s.outKind ∧ u.outSeq = s.outSeq ∧ u.outCode = s.outCode ∧ u.outTime = s.outTime ∧
  u.evtCount = s.evtCount ∧ u.evtOut = s.evtOut ∧ u.trace = s.trace

/-- The five configuration registers are as they were. -/
def sameCfg (s u : State) : Prop :=
  u.cfgIdle = s.cfgIdle ∧ u.cfgWindow = s.cfgWindow ∧ u.cfgFloor = s.cfgFloor ∧ u.cfgThresh = s.cfgThresh ∧
  u.cfgRefract = s.cfgRefract

end Sys2Proof.Machine
end

