-- ==== Sys2Proof/Certificates/Slice0/Obligations.lean ====
section
/-!
DEFINITION. The statements about IRDEC for the provers, in the order of OBLIGATIONS.json. A statement about every State
is about every build (`params`) and every interleaving (`pending`).
-/

open Sys2Proof Sys2Proof.Machine

/-! ## Encoding -/

/-- R70 to R77: every well-formed instruction is what the decoder reads from its encoding. -/
def Obligations.DecodeEncodeRoundTrip : Prop :=
  ∀ i : Instr, i.wellFormed = true → decodeWire (encode i) = i

/-- R71, R72, R75: the decoder is total and gives well-formed instructions, and encoding what it read gives the word
back with only the ignored bits cleared: D of a read, `A[1:0]` of a write to CMD or a CFG register (log entry 14). -/
def Obligations.EncodeDecodeClearsIgnoredBits : Prop :=
  (∀ (a : Addr) (d : Word), (decodeBus (busWord false a d)).wellFormed = true ∧
    encode (decodeBus (busWord false a d)) = .bus (busWord false a 0#32)) ∧
  (∀ (a : Addr) (d : Word), (decodeBus (busWord true a d)).wellFormed = true ∧
    encode (decodeBus (busWord true a d)) =
      .bus (busWord true (if a.toNat / 4 ∈ [0x000, 0x010, 0x011, 0x012, 0x013, 0x014] then a &&& 0xFFC#12 else a) d)) ∧
  (∀ w : BusWord, ∃ (b : Bool) (a : Addr) (d : Word), w = busWord b a d) ∧
  (∀ w : SampleWord, (decodeSample w).wellFormed = true ∧ encode (decodeSample w) = .sample w)

/-- R75: the decoder's instruction is the one of the first row of the opcode table that the word matches, with the
operands of R71 and R72. -/
def Obligations.DecoderIsFirstTableMatch : Prop :=
  (∀ w : BusWord, firstTableMatch w = some (mnemonicOf (decodeBus w))) ∧
  (∀ w : SampleWord, decodeSample w = .smp (w.getLsbD 64) (w.extractLsb' 0 64)) ∧
  (∀ w : BusWord,
    (∀ a, decodeBus w = .rd a → a = w.extractLsb' 32 12) ∧
    (∀ a d, decodeBus w = .wrIgnored a d → a = w.extractLsb' 32 12 ∧ d = w.extractLsb' 0 32) ∧
    (∀ d, decodeBus w = .cmdReserved d ∨ decodeBus w = .wrCfgIdle d ∨ decodeBus w = .wrCfgWindow d ∨
      decodeBus w = .wrCfgFloor d ∨ decodeBus w = .wrCfgThresh d ∨ decodeBus w = .wrCfgRefract d →
      d = w.extractLsb' 0 32))

/-- R71, R72, R75: words written out bit by bit decode to the instruction they stand for (95_test_vectors.md 2.6). -/
def Obligations.SpelledOutWordsDecode : Prop :=
  decodeWire (.bus 0x000400000000#45) = .rd 0x004#12 ∧
  decodeWire (.bus 0x005700000000#45) = .rd 0x057#12 ∧
  decodeWire (.bus 0x100000000001#45) = .start ∧
  decodeWire (.bus 0x100300000001#45) = .start ∧
  decodeWire (.bus 0x100000000007#45) = .cmdReserved 0x7#32 ∧
  decodeWire (.bus 0x100080000001#45) = .cmdReserved 0x80000001#32 ∧
  decodeWire (.bus 0x104C00000514#45) = .wrCfgThresh 0x514#32 ∧
  decodeWire (.bus 0x105400000005#45) = .wrIgnored 0x054#12 0x5#32 ∧
  decodeWire (.sample 0x100000000000003E8#65) = .smp true 1000#64 ∧
  decodeWire (.sample 0x0FFFFFFFFFFFFFFFF#65) = .smp false 0xFFFFFFFFFFFFFFFF#64

/-- R77: a CMD write with OP in 5 to 15 or a non-zero MBZ is CMD_RESERVED and only raises CmdErr; a write to any address
but CMD and the CFG registers is WR_IGNORED and has no effect; a read of a reserved address returns 0; no BUS word traps. -/
def Obligations.ReservedEncodingsRunWithoutTrap : Prop :=
  (∀ (s : State) (a : Addr) (d : Word), a.toNat / 4 = 0 → (5 ≤ d.toNat % 16 ∨ d.toNat / 16 ≠ 0) →
    decodeBus (busWord true a d) = .cmdReserved d ∧ exec (.cmdReserved d) s = .next { s with cmdErr := true }) ∧
  (∀ (s : State) (a : Addr) (d : Word), a.toNat / 4 ∉ [0x000, 0x010, 0x011, 0x012, 0x013, 0x014] →
    decodeBus (busWord true a d) = .wrIgnored a d ∧ exec (.wrIgnored a d) s = .next s) ∧
  (∀ (s : State) (a : Addr) (d : Word),
    (a.toNat / 4 = 0x000 ∨ (0x00C ≤ a.toNat / 4 ∧ a.toNat / 4 ≤ 0x00F) ∨ (0x016 ≤ a.toNat / 4 ∧ a.toNat / 4 ≤ 0x03F) ∨
      0x040 + s.params.slots ≤ a.toNat / 4) →
    exec (decodeBus (busWord false a d)) s = .next { s with rdata := some 0#32 }) ∧
  (∀ (s : State) (w : BusWord), ∃ t : State, exec (decodeBus w) s = .next t)

/-- R51: `A[1:0]` are ignored, by reads and by writes. -/
def Obligations.OnlySelectedWordMatters : Prop :=
  ∀ (s : State) (b : Bool) (a a' : Addr) (d : Word), a.toNat / 4 = a'.toNat / 4 →
    exec (decodeBus (busWord b a d)) s = exec (decodeBus (busWord b a' d)) s

/-! ## The step -/

/-- R101, log entries 1 and 7: a step takes the oldest pending word whole, as executing what the decoder reads from it
in the state with the word taken, in_avail at its level and the output ports empty; a well-formed instruction's encoding
runs that instruction. -/
def Obligations.StepRunsDecodedInstruction : Prop :=
  (∀ (s : State) (av : Bool) (w : WireWord) (rest : List Arrival), s.pending = ⟨av, .word w⟩ :: rest →
    step s = exec (decodeWire w) { s with inAvail := av, pending := rest, rdata := none, evtOut := none }) ∧
  (∀ (s : State) (av : Bool) (i : Instr) (rest : List Arrival), i.wellFormed = true →
    s.pending = ⟨av, .word (encode i)⟩ :: rest →
    step s = exec i { s with inAvail := av, pending := rest, rdata := none, evtOut := none })

/-- R240: RESET, in any state, writes every element to its reset value and leaves LAST_T, the build and the trace; then the
registers read as the rule says. The model's own port fields go with the arrival: it leaves `pending`, `in_avail` takes its
level, and the read value and the event port are empty (the model's choices, log entries 1 and 7). -/
def Obligations.ResetWritesEveryElement : Prop :=
  ∀ (s : State) (av : Bool) (rest : List Arrival), s.pending = ⟨av, .reset⟩ :: rest →
    ∃ t : State, step s = .next t ∧
      t = { State.reset with
        params := s.params
        pw := List.replicate s.params.slots 0#32
        lastT := s.lastT
        inAvail := av
        pending := rest
        trace := s.trace } ∧
      readAddr t 0x004#12 = 0#32 ∧ readAddr t 0x008#12 = 0#32 ∧ readAddr t 0x00C#12 = 0#32 ∧
      readAddr t 0x010#12 = 0#32 ∧ readAddr t 0x014#12 = 0#32 ∧ readAddr t 0x018#12 = 0#32 ∧
      readAddr t 0x01C#12 = 0#32 ∧ readAddr t 0x020#12 = 0#32 ∧ readAddr t 0x024#12 = 0#32 ∧
      readAddr t 0x028#12 = 0#32 ∧ readAddr t 0x02C#12 = 0#32 ∧
      readAddr t 0x040#12 = 0x000F4240#32 ∧ readAddr t 0x044#12 = 0x00030D40#32 ∧ readAddr t 0x048#12 = 0x64#32 ∧
      readAddr t 0x04C#12 = 0x3E8#32 ∧ readAddr t 0x050#12 = 0x00030D40#32 ∧
      (s.params.nLeader = 1 → readAddr t 0x054#12 = 0x00212001#32) ∧
      (∀ i, slot t i = 0#32)

/-- R20, R22 to R40, R45: the values of State.reset, the start of a run. -/
def Obligations.ResetStateValues : Prop :=
  State.reset.seq = .stopped ∧ State.reset.stopPend = false ∧ State.reset.t0Valid = false ∧ State.reset.t0 = 0#64 ∧
  State.reset.ws = 0#64 ∧ State.reset.ps = 0#64 ∧ State.reset.pcount = 0#16 ∧
  State.reset.pw = List.replicate 33 0#32 ∧ State.reset.dbValid = false ∧ State.reset.dbCode = 0#32 ∧
  State.reset.dbTime = 0#64 ∧ State.reset.outKind = .none ∧ State.reset.outSeq = 0#16 ∧ State.reset.outCode = 0#32 ∧
  State.reset.outTime = 0#64 ∧ State.reset.evtCount = 0#32 ∧ State.reset.cmdErr = false ∧ State.reset.cfgErr = false ∧
  State.reset.initFault = false ∧ State.reset.cfgIdle = 1000000#32 ∧ State.reset.cfgWindow = 200000#32 ∧
  State.reset.cfgFloor = 100#32 ∧ State.reset.cfgThresh = 1000#32 ∧ State.reset.cfgRefract = 200000#32 ∧
  State.reset.lastT = none

/-- R100, log entry 2 (the model's choice): with no event pending there is no step. -/
def Obligations.NoStepWithoutEvent : Prop :=
  ∀ s : State, step s = .fault .noEvent ↔ s.pending = []

/-! ## Register reads -/

/-- R180: a read, of any address in any STATE, returns the register's value and changes nothing. -/
def Obligations.ReadReturnsRegister : Prop :=
  ∀ (s : State) (a : Addr) (d : Word),
    decodeBus (busWord false a d) = .rd a ∧ exec (.rd a) s = .next { s with rdata := some (readValue s (wordIndex a)) }

/-- R181: ReadValue, register by register. -/
def Obligations.ReadValueByRegister : Prop :=
  ∀ s : State,
    (readValue s 0x001#10).toNat = 1024 * s.initFault.toNat + 512 * s.cfgErr.toNat + 256 * s.cmdErr.toNat +
      16 * s.stopPend.toNat +
      (match s.seq with | .stopped => 0 | .idleWait => 9 | .captGap => 10 | .captHigh => 11 | .fault => 7) ∧
    (readValue s 0x002#10).toNat = 65536 * s.outSeq.toNat +
      (match s.outKind with
        | .none => 0 | .noSignal => 1 | .insufficient => 2 | .accepted => 3 | .suppressed => 4 | .aborted => 5) ∧
    readValue s 0x003#10 = s.outCode ∧
    (readValue s 0x004#10).toNat = s.outTime.toNat % 2 ^ 32 ∧
    (readValue s 0x005#10).toNat = s.outTime.toNat / 2 ^ 32 ∧
    readValue s 0x006#10 = s.evtCount ∧
    (readValue s 0x007#10).toNat = s.pcount.toNat ∧
    (readValue s 0x008#10).toNat = s.dbValid.toNat ∧
    readValue s 0x009#10 = s.dbCode ∧
    (readValue s 0x00A#10).toNat = s.dbTime.toNat % 2 ^ 32 ∧
    (readValue s 0x00B#10).toNat = s.dbTime.toNat / 2 ^ 32 ∧
    readValue s 0x010#10 = s.cfgIdle ∧
    readValue s 0x011#10 = s.cfgWindow ∧
    readValue s 0x012#10 = s.cfgFloor ∧
    readValue s 0x013#10 = s.cfgThresh ∧
    readValue s 0x014#10 = s.cfgRefract ∧
    (readValue s 0x015#10).toNat = s.params.nLeader.val + 256 * 32 + 65536 * (s.params.nLeader.val + 32) ∧
    (∀ i, i < s.params.nLeader.val + 32 → readValue s (BitVec.ofNat 10 (0x040 + i)) = s.pw.getD i 0#32) ∧
    (∀ w : WordIndex,
      w.toNat = 0 ∨ (0x00C ≤ w.toNat ∧ w.toNat ≤ 0x00F) ∨ (0x016 ≤ w.toNat ∧ w.toNat ≤ 0x03F) ∨
        0x040 + (s.params.nLeader.val + 32) ≤ w.toNat → readValue s w = 0#32)

/-- R42: the fields of STATUS, bit by bit. -/
def Obligations.StatusFields : Prop :=
  ∀ s : State,
    (readAddr s 0x004#12).toNat % 8 =
      (match s.seq with | .stopped => 0 | .idleWait => 1 | .captGap => 2 | .captHigh => 3 | .fault => 7) ∧
    ((readAddr s 0x004#12).getLsbD 3 = true ↔ s.seq = .idleWait ∨ s.seq = .captGap ∨ s.seq = .captHigh) ∧
    (readAddr s 0x004#12).getLsbD 4 = s.stopPend ∧
    (∀ i, 5 ≤ i → i ≤ 7 → (readAddr s 0x004#12).getLsbD i = false) ∧
    (readAddr s 0x004#12).getLsbD 8 = s.cmdErr ∧
    (readAddr s 0x004#12).getLsbD 9 = s.cfgErr ∧
    (readAddr s 0x004#12).getLsbD 10 = s.initFault ∧
    (∀ i, 11 ≤ i → (readAddr s 0x004#12).getLsbD i = false) ∧
    readAddr State.reset 0x004#12 = 0#32

/-- R58: a read may be dropped: what follows it is as if it had not been there. -/
def Obligations.ReadsMayBeDropped : Prop :=
  ∀ (s : State) (av : Bool) (a : Addr) (d : Word) (rest : List Arrival),
    s.pending = ⟨av, .word (.bus (busWord false a d))⟩ :: rest →
    ∃ t : State, step s = .next t ∧ (∀ a' : Addr, readAddr t a' = readAddr s a') ∧
      step t = step { s with pending := rest }

/-! ## Configuration writes -/

/-- R182 to R187: a CFG write, through any alias of its address, is stored unchanged in STOPPED; in any other STATE the
register keeps its value and CFG_ERR is set. Nothing else changes. -/
def Obligations.CfgWriteOnlyInStopped : Prop :=
  ∀ (s : State) (a : Addr) (d : Word),
    (a.toNat / 4 = 0x010 → decodeBus (busWord true a d) = .wrCfgIdle d) ∧
    (a.toNat / 4 = 0x011 → decodeBus (busWord true a d) = .wrCfgWindow d) ∧
    (a.toNat / 4 = 0x012 → decodeBus (busWord true a d) = .wrCfgFloor d) ∧
    (a.toNat / 4 = 0x013 → decodeBus (busWord true a d) = .wrCfgThresh d) ∧
    (a.toNat / 4 = 0x014 → decodeBus (busWord true a d) = .wrCfgRefract d) ∧
    exec (.wrCfgIdle d) s = .next (if s.seq = .stopped then { s with cfgIdle := d } else { s with cfgErr := true }) ∧
    exec (.wrCfgWindow d) s = .next (if s.seq = .stopped then { s with cfgWindow := d } else { s with cfgErr := true }) ∧
    exec (.wrCfgFloor d) s = .next (if s.seq = .stopped then { s with cfgFloor := d } else { s with cfgErr := true }) ∧
    exec (.wrCfgThresh d) s = .next (if s.seq = .stopped then { s with cfgThresh := d } else { s with cfgErr := true }) ∧
    exec (.wrCfgRefract d) s = .next (if s.seq = .stopped then { s with cfgRefract := d } else { s with cfgErr := true })

/-- R182 and R52, as the host sees it: after a write of one of the five CFG registers in STOPPED that register reads
back as written and every other address reads as before; in any other STATE every address but STATUS reads as before
and STATUS differs at most in CFG_ERR, which is set. -/
def Obligations.CfgWriteReadsBack : Prop :=
  ∀ (s t : State) (a : Addr) (d : Word), 0x010 ≤ a.toNat / 4 → a.toNat / 4 ≤ 0x014 →
    exec (decodeBus (busWord true a d)) s = .next t →
    (s.seq = .stopped →
      readAddr t a = d ∧ ∀ a' : Addr, a'.toNat / 4 ≠ a.toNat / 4 → readAddr t a' = readAddr s a') ∧
    (s.seq ≠ .stopped →
      (∀ a' : Addr, a'.toNat / 4 ≠ 0x001 → readAddr t a' = readAddr s a') ∧
      (readAddr t 0x004#12).getLsbD 9 = true ∧
      ∀ i, i ≠ 9 → (readAddr t 0x004#12).getLsbD i = (readAddr s 0x004#12).getLsbD i)

/-- R61: outside STOPPED no event but RESET changes a CFG register, so a cycle runs with one constant set of them. -/
def Obligations.CfgConstantWhileRunning : Prop :=
  ∀ (s t : State) (av : Bool) (e : PortEvent) (rest : List Arrival),
    s.pending = ⟨av, e⟩ :: rest → e ≠ .reset → s.seq ≠ .stopped → step s = .next t → sameCfg s t

/-! ## Commands -/

/-- R188, R189: NOP and an ignored write do nothing, in every STATE. -/
def Obligations.NopAndIgnoredWriteDoNothing : Prop :=
  ∀ (s : State) (a : Addr) (d : Word),
    (a.toNat / 4 = 0 → decodeBus (busWord true a 0#32) = .nop) ∧ exec .nop s = .next s ∧
    (a.toNat / 4 ∉ [0x000, 0x010, 0x011, 0x012, 0x013, 0x014] → decodeBus (busWord true a d) = .wrIgnored a d) ∧
    exec (.wrIgnored a d) s = .next s

/-- R190: START, in its three cases; nothing but the named elements changes. -/
def Obligations.StartBeginsOrFaults : Prop :=
  ∀ (s : State) (a : Addr),
    (a.toNat / 4 = 0 → decodeBus (busWord true a 1#32) = .start) ∧
    exec .start s = .next (
      if s.seq = .stopped then
        if s.inAvail = true then
          { s with dbValid := false, dbCode := 0#32, dbTime := 0#64, evtCount := 0#32, stopPend := false,
                   t0Valid := false, seq := .idleWait }
        else { s with initFault := true, seq := .fault }
      else { s with cmdErr := true })

/-- R191: STOP, in its three cases. -/
def Obligations.StopIsCooperative : Prop :=
  ∀ (s : State) (a : Addr),
    (a.toNat / 4 = 0 → decodeBus (busWord true a 2#32) = .stop) ∧
    exec .stop s = .next (
      if s.seq = .idleWait ∧ s.t0Valid = false then { s with seq := .stopped }
      else if s.seq = .idleWait ∨ s.seq = .captGap ∨ s.seq = .captHigh then { s with stopPend := true }
      else s)

/-- R192: ABORT ends a running loop at once with the outcome ABORTED, and does nothing elsewhere. -/
def Obligations.AbortEndsLoopAtOnce : Prop :=
  ∀ (s : State) (a : Addr),
    (a.toNat / 4 = 0 → decodeBus (busWord true a 3#32) = .abort) ∧
    exec .abort s = .next (
      if s.seq = .idleWait ∨ s.seq = .captGap ∨ s.seq = .captHigh then
        { s with seq := .stopped, stopPend := false, t0Valid := false, outKind := .aborted, outSeq := s.outSeq + 1#16 }
      else s)

/-- R193, R194: CLRERR clears CMD_ERR and CFG_ERR only; every CMD write of no command's data sets CMD_ERR only. -/
def Obligations.ErrorCommands : Prop :=
  ∀ (s : State) (a : Addr) (d : Word), a.toNat / 4 = 0 →
    decodeBus (busWord true a 4#32) = .clrerr ∧
    exec .clrerr s = .next { s with cmdErr := false, cfgErr := false } ∧
    (5 ≤ d.toNat → decodeBus (busWord true a d) = .cmdReserved d) ∧
    exec (.cmdReserved d) s = .next { s with cmdErr := true }

/-- R52, R58, the frame of the host's operations as the host sees it: which registers may read otherwise afterwards. -/
def Obligations.HostOperationsReadFrame : Prop :=
  ∀ (s t : State) (a' : Addr),
    ((∃ a, exec (.rd a) s = .next t) ∨ exec .nop s = .next t ∨ (∃ a d, exec (.wrIgnored a d) s = .next t) →
      readAddr t a' = readAddr s a') ∧
    (exec .stop s = .next t ∨ exec .clrerr s = .next t ∨ (∃ d, exec (.cmdReserved d) s = .next t) →
      a'.toNat / 4 ≠ 0x001 → readAddr t a' = readAddr s a') ∧
    (exec .abort s = .next t → a'.toNat / 4 ∉ [0x001, 0x002] → readAddr t a' = readAddr s a') ∧
    (exec .start s = .next t → a'.toNat / 4 ∉ [0x001, 0x006, 0x008, 0x009, 0x00A, 0x00B] →
      readAddr t a' = readAddr s a')

/-- R195: no host operation but START and ABORT writes the debounce state, the capture store, the results or the event
port; START only clears the debounce state and EVT_COUNT of these, ABORT only records its outcome. -/
def Obligations.HostCannotWriteDatapath : Prop :=
  ∀ (s t : State) (i : Instr), exec i s = .next t → (∀ l u, i ≠ .smp l u) →
    (i ≠ .start → i ≠ .abort → sameDatapath s t) ∧
    (i = .start → t.pw = s.pw ∧ t.pcount = s.pcount ∧ t.outKind = s.outKind ∧ t.outSeq = s.outSeq ∧
      t.outCode = s.outCode ∧ t.outTime = s.outTime ∧ t.evtOut = s.evtOut ∧ t.trace = s.trace ∧
      (t.dbValid = s.dbValid ∧ t.dbCode = s.dbCode ∧ t.dbTime = s.dbTime ∧ t.evtCount = s.evtCount ∨
        t.dbValid = false ∧ t.dbCode = 0#32 ∧ t.dbTime = 0#64 ∧ t.evtCount = 0#32)) ∧
    (i = .abort → sameDatapath s { t with outKind := s.outKind, outSeq := s.outSeq } ∧
      (t.outKind = s.outKind ∧ t.outSeq = s.outSeq ∨ t.outKind = .aborted ∧ t.outSeq = s.outSeq + 1#16))

/-- R217: one host write sets at most one error flag: a CMD write CMD_ERR or INIT_FAULT, a CFG write CFG_ERR. -/
def Obligations.OneFlagPerHostWrite : Prop :=
  ∀ (s t : State) (a : Addr) (d : Word), exec (decodeBus (busWord true a d)) s = .next t →
    ¬(s.cmdErr = false ∧ t.cmdErr = true ∧ s.initFault = false ∧ t.initFault = true) ∧
    (a.toNat / 4 = 0 → t.cfgErr = true → s.cfgErr = true) ∧
    (a.toNat / 4 ≠ 0 → t.cmdErr = s.cmdErr ∧ t.initFault = s.initFault)

/-! ## Samples -/

/-- R102: a sample not below LAST_T completes, in every STATE; one below it has no step, which the model says by the fault
decreasingTimestamp (log entry 3); and because of this no recorded instant lies after a sample's timestamp in a coherent
state. -/
def Obligations.SampleCompletesInOrder : Prop :=
  ∀ (s : State) (l : Bool) (t : Time),
    ((∀ u, s.lastT = some u → u.toNat ≤ t.toNat) → ∃ s', exec (.smp l t) s = .next s' ∧ s'.lastT = some t) ∧
    (∀ u, s.lastT = some u → t.toNat < u.toNat → exec (.smp l t) s = .fault .decreasingTimestamp) ∧
    (Coherent s → (∀ u, s.lastT = some u → u.toNat ≤ t.toNat) →
      s.t0.toNat ≤ t.toNat ∧ s.ws.toNat ≤ t.toNat ∧ s.ps.toNat ≤ t.toNat ∧ s.dbTime.toNat ≤ t.toNat)

/-- R108: in STOPPED and FAULT a sample changes nothing but LAST_T. -/
def Obligations.SampleIgnoredWithoutLoop : Prop :=
  ∀ (s : State) (l : Bool) (t : Time), (s.seq = .stopped ∨ s.seq = .fault) →
    (∀ u, s.lastT = some u → u.toNat ≤ t.toNat) →
    exec (.smp l t) s = .next { s with lastT := some t }

/-- R120, R121, R122: the sample in IDLE_WAIT. A low sample confirms idle, even at the timeout; a high one times out when
CFG_IDLE has elapsed since T0, and else waits. T0 is the time of the cycle's first sample. -/
def Obligations.IdleWaitSampleEffect : Prop :=
  ∀ (s : State) (l : Bool) (t : Time), s.seq = .idleWait → (∀ u, s.lastT = some u → u.toNat ≤ t.toNat) →
    exec (.smp l t) s = .next (
      if l = false then
        { s with lastT := some t, t0 := (if s.t0Valid then s.t0 else t), t0Valid := true, ws := t, pcount := 0#16,
                 pw := List.replicate (s.params.nLeader.val + 32) 0#32, seq := .captGap }
      else if s.cfgIdle.toNat ≤ t.toNat - (if s.t0Valid then s.t0 else t).toNat then
        { s with lastT := some t, t0 := (if s.t0Valid then s.t0 else t), t0Valid := false, outKind := .noSignal,
                 outSeq := s.outSeq + 1#16, outTime := t, stopPend := false,
                 seq := (if s.stopPend then .stopped else .idleWait) }
      else { s with lastT := some t, t0 := (if s.t0Valid then s.t0 else t), t0Valid := true })

/-- R123: the sample in CAPT_GAP. The window is tested before the level. -/
def Obligations.GapSampleEffect : Prop :=
  ∀ (s : State) (l : Bool) (t : Time), s.seq = .captGap → (∀ u, s.lastT = some u → u.toNat ≤ t.toNat) →
    exec (.smp l t) s = .next (
      if s.cfgWindow.toNat ≤ t.toNat - s.ws.toNat then closeWindow t { s with lastT := some t }
      else if l = true then { s with lastT := some t, ps := t, seq := .captHigh }
      else { s with lastT := some t })

/-- R124: the sample in CAPT_HIGH. The pulse ends at a low sample or at the window's end, and is recorded before the
window closes. -/
def Obligations.HighSampleEffect : Prop :=
  ∀ (s : State) (l : Bool) (t : Time), s.seq = .captHigh → (∀ u, s.lastT = some u → u.toNat ≤ t.toNat) →
    exec (.smp l t) s = .next (
      if s.cfgWindow.toNat ≤ t.toNat - s.ws.toNat then
        closeWindow t (recordPulse (t.toNat - s.ps.toNat) { s with lastT := some t })
      else if l = true then { s with lastT := some t }
      else { recordPulse (t.toNat - s.ps.toNat) { s with lastT := some t } with seq := .captGap })

/-- R125, R127: a pulse of d µs is counted exactly when its saturated duration strictly exceeds CFG_FLOOR, stored while
a slot is free, and otherwise changes nothing; only PW and PCOUNT are written. -/
def Obligations.RecordPulseEffect : Prop :=
  ∀ (s : State) (d : Nat), s.pw.length = s.params.nLeader.val + 32 →
    (min d 0xFFFFFFFF ≤ s.cfgFloor.toNat → recordPulse d s = s) ∧
    (s.cfgFloor.toNat < min d 0xFFFFFFFF →
      (recordPulse d s).pcount.toNat = min (s.pcount.toNat + 1) 0xFFFF ∧
      (∀ i, i < s.params.nLeader.val + 32 → i ≠ s.pcount.toNat → slot (recordPulse d s) i = slot s i) ∧
      (s.pcount.toNat < s.params.nLeader.val + 32 →
        (slot (recordPulse d s) s.pcount.toNat).toNat = min d 0xFFFFFFFF) ∧
      (recordPulse d s).pw.length = s.params.nLeader.val + 32 ∧
      { recordPulse d s with pw := s.pw, pcount := s.pcount } = s)

/-- R126, R140, R143, R162, R163, R107: what closing a window at t does, in its three outcomes. The stop check comes
last. -/
def Obligations.WindowCloseOutcome : Prop :=
  ∀ (s : State) (t : Time),
    closeWindow t s =
      if s.pcount.toNat < s.params.nLeader.val + 32 then
        { s with outKind := .insufficient, outSeq := s.outSeq + 1#16, outTime := t, t0Valid := false, stopPend := false,
                 seq := (if s.stopPend then .stopped else .idleWait) }
      else if s.dbValid = true ∧ s.dbCode = assemble s ∧ t.toNat - s.dbTime.toNat < s.cfgRefract.toNat then
        { s with outCode := assemble s, outKind := .suppressed, outSeq := s.outSeq + 1#16, outTime := t, t0Valid := false,
                 stopPend := false, seq := (if s.stopPend then .stopped else .idleWait) }
      else
        { s with outCode := assemble s, dbValid := true, dbCode := assemble s, dbTime := t,
                 evtCount := s.evtCount + 1#32, evtOut := some ⟨assemble s, t⟩,
                 trace := s.trace ++ [⟨assemble s, t⟩], outKind := .accepted, outSeq := s.outSeq + 1#16, outTime := t,
                 t0Valid := false, stopPend := false, seq := (if s.stopPend then .stopped else .idleWait) }

/-- R141, R142: bit 31 - j of the code is 1 exactly when data pulse j is strictly longer than CFG_THRESH. -/
def Obligations.AssembledCodeBits : Prop :=
  ∀ (s : State) (j : Nat), j < 32 →
    ((assemble s).getLsbD (31 - j) = true ↔ s.cfgThresh.toNat < (slot s (s.params.nLeader.val + j)).toNat)

/-- R144: the outcome of a window reads whether PCOUNT is below S, and the 32 data slots, only: two states that agree on
them, and on what the debounce reads, end the window alike, whatever the leader slots, the number of pulses after the S-th
and every other element are. -/
def Obligations.DecoderReadsDataSlotsOnly : Prop :=
  ∀ (s u : State) (t : Time), s.params = u.params →
    (s.pcount.toNat < s.params.nLeader.val + 32 ↔ u.pcount.toNat < u.params.nLeader.val + 32) →
    s.cfgThresh = u.cfgThresh →
    s.cfgRefract = u.cfgRefract → s.dbValid = u.dbValid → s.dbCode = u.dbCode → s.dbTime = u.dbTime →
    (∀ j, j < 32 → slot s (s.params.nLeader.val + j) = slot u (s.params.nLeader.val + j)) →
    (closeWindow t s).outKind = (closeWindow t u).outKind ∧
    ((closeWindow t s).outKind = .insufficient ↔ s.pcount.toNat < s.params.nLeader.val + 32) ∧
    ((closeWindow t s).outKind ≠ .insufficient → (closeWindow t s).outCode = (closeWindow t u).outCode) ∧
    ∃ es, (closeWindow t s).trace = s.trace ++ es ∧ (closeWindow t u).trace = u.trace ++ es

/-- R160, R161, R164: decoding one code again and again inside the refractory period suppresses every one and never
moves the debounce state, so the first decode at or after its end is accepted; another code is accepted at any time. -/
def Obligations.LeadingEdgeDebounce : Prop :=
  ∀ (s : State) (code : Word) (ts : List Time) (t : Time), s.dbValid = true → s.dbCode = code →
    (∀ u ∈ ts, u.toNat - s.dbTime.toNat < s.cfgRefract.toNat) →
    let h := ts.foldl (fun q u => debounceStep code u q) s
    (h.dbValid = true ∧ h.dbCode = code ∧ h.dbTime = s.dbTime ∧ h.evtCount = s.evtCount ∧ h.trace = s.trace) ∧
    (ts ≠ [] → h.outKind = .suppressed) ∧
    (s.cfgRefract.toNat ≤ t.toNat - s.dbTime.toNat →
      (debounceStep code t h).outKind = .accepted ∧ (debounceStep code t h).dbTime = t ∧
      (debounceStep code t h).trace = s.trace ++ [⟨code, t⟩]) ∧
    (∀ c, c ≠ code → (debounceStep c t h).outKind = .accepted ∧ (debounceStep c t h).dbCode = c ∧
      (debounceStep c t h).dbTime = t)

/-- The frame of a sample: it writes no CFG register, no error flag, no port input, no build parameter and no read
value; in IDLE_WAIT without a confirmation it keeps the capture store, and it keeps DB, EVT_COUNT and the trace unless
it is accepted. -/
def Obligations.SampleFrame : Prop :=
  ∀ (s t : State) (l : Bool) (u : Time), exec (.smp l u) s = .next t →
    sameCfg s t ∧ t.cmdErr = s.cmdErr ∧ t.cfgErr = s.cfgErr ∧ t.initFault = s.initFault ∧ t.params = s.params ∧
    t.inAvail = s.inAvail ∧ t.pending = s.pending ∧ t.rdata = s.rdata ∧ t.lastT = some u ∧
    (s.seq = .idleWait → l = true → t.pw = s.pw ∧ t.pcount = s.pcount ∧ t.ws = s.ws ∧ t.ps = s.ps) ∧
    (t.outSeq = s.outSeq ∨ t.outKind ≠ .accepted →
      t.dbValid = s.dbValid ∧ t.dbCode = s.dbCode ∧ t.dbTime = s.dbTime ∧ t.evtCount = s.evtCount ∧
      t.evtOut = s.evtOut ∧ t.trace = s.trace)

/-! ## Rules of the whole machine -/

/-- The start of a run is coherent. -/
def Obligations.ResetIsCoherent : Prop := Coherent State.reset

/-- Every event keeps coherence: from any coherent state, whatever the event, the next state is coherent. -/
def Obligations.StepKeepsCoherent : Prop :=
  ∀ s t : State, Coherent s → step s = .next t → Coherent t

/-- R104: STATE after any event is what the transition table says, and no event it does not list changes STATE. -/
def Obligations.StateFollowsTransitionTable : Prop :=
  ∀ (s t : State) (av : Bool) (e : PortEvent) (rest : List Arrival),
    s.pending = ⟨av, e⟩ :: rest → step s = .next t → t.seq = transitionTable s av e

/-- R214: FAULT is entered by START in STOPPED with the input unavailable and by nothing else, and left only by RESET; in FAULT samples are ignored,
START sets CMD_ERR, CFG writes set CFG_ERR, and INIT_FAULT stays. -/
def Obligations.FaultLeftOnlyByReset : Prop :=
  ∀ (s t : State) (av : Bool) (e : PortEvent) (rest : List Arrival),
    s.pending = ⟨av, e⟩ :: rest → step s = .next t →
    (s.seq = .fault → e ≠ .reset → t.seq = .fault ∧ t.initFault = s.initFault ∧
      (∀ w, e = .word w →
        (decodeWire w = .start → t.cmdErr = true) ∧
        (∀ d, decodeWire w = .wrCfgIdle d ∨ decodeWire w = .wrCfgWindow d ∨ decodeWire w = .wrCfgFloor d ∨
          decodeWire w = .wrCfgThresh d ∨ decodeWire w = .wrCfgRefract d → t.cfgErr = true ∧ sameCfg s t) ∧
        (∀ l u, decodeWire w = .smp l u →
          t = { s with lastT := some u, inAvail := av, pending := rest, rdata := none, evtOut := none }))) ∧
    (s.seq = .fault → e = .reset → t.seq = .stopped ∧ t.initFault = false) ∧
    (s.seq ≠ .fault → t.seq = .fault →
      s.seq = .stopped ∧ av = false ∧ t.initFault = true ∧ ∃ w, e = .word w ∧ decodeWire w = .start) ∧
    (s.seq = .stopped → av = false → (∃ w, e = .word w ∧ decodeWire w = .start) → t.seq = .fault ∧ t.initFault = true)

/-- R30 to R33: an event other than RESET that changes any result register counts one outcome, so equal values of OUT_SEQ
before and after one event mean that no result register changed (70_reset_and_hazards.md R246). -/
def Obligations.ResultsChangeWithSequence : Prop :=
  ∀ (s t : State) (av : Bool) (e : PortEvent) (rest : List Arrival),
    s.pending = ⟨av, e⟩ :: rest → e ≠ .reset → step s = .next t →
    (t.outSeq = s.outSeq ∧ t.outKind = s.outKind ∧ t.outCode = s.outCode ∧ t.outTime = s.outTime) ∨
    (t.outSeq = s.outSeq + 1#16 ∧ t.outKind ≠ .none ∧
      (t.outKind ≠ .accepted → t.outKind ≠ .suppressed → t.outCode = s.outCode) ∧
      (t.outKind = .aborted → t.outTime = s.outTime) ∧
      (t.outKind ≠ .aborted → t.lastT = some t.outTime))

/-- R62, R163, R34: an event records no ACCEPTED outcome and leaves the event port and trace alone, or it is an ACCEPTED
outcome and emits exactly one event, with its code and time, at the end of the trace (log entry 8), and counts it.
EVT_COUNT is cleared only by START and RESET. -/
def Obligations.OneEmissionPerAcceptance : Prop :=
  ∀ s t : State, step s = .next t →
    ((t.outSeq = s.outSeq ∨ t.outKind ≠ .accepted) ∧ t.evtOut = none ∧ t.trace = s.trace ∧
      (t.evtCount = s.evtCount ∨ t.evtCount = 0#32 ∧
        ∃ av e rest, s.pending = ⟨av, e⟩ :: rest ∧
          (e = .reset ∨ ∃ w, e = .word w ∧ decodeWire w = .start ∧ s.seq = .stopped ∧ av = true))) ∨
    (t.evtOut = some ⟨t.outCode, t.outTime⟩ ∧ t.trace = s.trace ++ [⟨t.outCode, t.outTime⟩] ∧
      t.evtCount = s.evtCount + 1#32 ∧ t.outKind = .accepted ∧ t.outSeq = s.outSeq + 1#16 ∧
      t.dbValid = true ∧ t.dbCode = t.outCode ∧ t.dbTime = t.outTime ∧ t.lastT = some t.outTime)

/-- R45, R102, R240 and log entry 4: time never runs backwards, RESET leaves LAST_T, and no event changes the build. -/
def Obligations.TimeNeverDecreases : Prop :=
  ∀ s t : State, step s = .next t →
    lastTime s ≤ lastTime t ∧ t.params = s.params ∧
    (t.lastT = s.lastT ∨ ∃ av w rest l u, s.pending = ⟨av, .word w⟩ :: rest ∧ decodeWire w = .smp l u ∧ t.lastT = some u)

/-- R165: in any coherent state, a window that closes does so at least CFG_WINDOW after the previous outcome, and when
CFG_REFRACT <= CFG_WINDOW no decoded code is suppressed. -/
def Obligations.NoSuppressionWithinWindow : Prop :=
  ∀ (s t : State) (l : Bool) (u : Time), Coherent s → capturing s = true → exec (.smp l u) s = .next t →
    t.outSeq ≠ s.outSeq →
    s.outTime.toNat + s.cfgWindow.toNat ≤ t.outTime.toNat ∧
    (s.cfgRefract.toNat ≤ s.cfgWindow.toNat → t.outKind = .accepted ∨ t.outKind = .insufficient)

/-! ### Whole cycles, in runs in which host transactions stand between the samples in any order (R101, R218) -/

/-- R128: from a confirming low sample at tc0, for any events but ABORT and RESET whose samples are in order and inside the
window, and any sample at or after its end, PCOUNT is the saturated length of the source's PulseSequence of the samples and
PW its first S entries, 0 after them. The host transactions between the samples change nothing of this; a STOP among them
stops the loop when the cycle has ended. -/
def Obligations.CaptureStoresPulseSequence : Prop :=
  ∀ (s : State) (first last : Arrival) (tc0 tc : Time) (lc : Bool) (es : List Arrival),
    s.seq = .idleWait → first.sample? = some (false, tc0) → last.sample? = some (lc, tc) →
    (∀ a ∈ es, a.keepsCycle = true) →
    (∀ u, s.lastT = some u → u.toNat ≤ tc0.toNat) → Ordered tc0 (samplesOf es ++ [(lc, tc)]) →
    (∀ x ∈ samplesOf es, x.2.toNat - tc0.toNat < s.cfgWindow.toNat) → s.cfgWindow.toNat ≤ tc.toNat - tc0.toNat →
    ∃ t : State, eventRun (first :: es ++ [last]) s = some t ∧
      t.pcount.toNat = min (pulseSequence s.cfgFloor tc (samplesOf es)).length 0xFFFF ∧
      (∀ i, i < s.params.nLeader.val + 32 → slot t i = (pulseSequence s.cfgFloor tc (samplesOf es)).getD i 0#32) ∧
      t.ws = tc0 ∧ t.outTime = tc ∧ t.outSeq = s.outSeq + 1#16 ∧ sameCfg s t ∧
      t.seq = (if s.stopPend || es.any Arrival.stops then .stopped else .idleWait)

/-- R140 to R143, R160 to R163 over a whole cycle, whatever host transactions but ABORT and RESET stand between its samples:
the outcome and code are the source's decode and debounce of the PulseSequence: INSUFFICIENT below S pulses, else the 32
data pulses classified, most significant first, and accepted unless it repeats the last accepted code within CFG_REFRACT. -/
def Obligations.CycleDecodesPulseSequence : Prop :=
  ∀ (s : State) (first last : Arrival) (tc0 tc : Time) (lc : Bool) (es : List Arrival),
    s.seq = .idleWait → first.sample? = some (false, tc0) → last.sample? = some (lc, tc) →
    (∀ a ∈ es, a.keepsCycle = true) →
    (∀ u, s.lastT = some u → u.toNat ≤ tc0.toNat) → Ordered tc0 (samplesOf es ++ [(lc, tc)]) →
    (∀ x ∈ samplesOf es, x.2.toNat - tc0.toNat < s.cfgWindow.toNat) → s.cfgWindow.toNat ≤ tc.toNat - tc0.toNat →
    ∃ t : State, eventRun (first :: es ++ [last]) s = some t ∧
      ((pulseSequence s.cfgFloor tc (samplesOf es)).length < s.params.nLeader.val + 32 →
        t.outKind = .insufficient ∧ t.outCode = s.outCode ∧ t.trace = s.trace ∧ t.evtOut = none ∧
        t.dbValid = s.dbValid ∧ t.dbCode = s.dbCode ∧ t.dbTime = s.dbTime ∧ t.evtCount = s.evtCount) ∧
      (s.params.nLeader.val + 32 ≤ (pulseSequence s.cfgFloor tc (samplesOf es)).length →
        (∀ j, j < 32 → (t.outCode.getLsbD (31 - j) = true ↔
          s.cfgThresh.toNat <
            ((pulseSequence s.cfgFloor tc (samplesOf es)).getD (s.params.nLeader.val + j) 0#32).toNat)) ∧
        (s.dbValid = true ∧ s.dbCode = t.outCode ∧ tc.toNat - s.dbTime.toNat < s.cfgRefract.toNat →
          t.outKind = .suppressed ∧ t.trace = s.trace ∧ t.evtOut = none ∧
          t.dbValid = s.dbValid ∧ t.dbCode = s.dbCode ∧ t.dbTime = s.dbTime ∧ t.evtCount = s.evtCount) ∧
        (¬(s.dbValid = true ∧ s.dbCode = t.outCode ∧ tc.toNat - s.dbTime.toNat < s.cfgRefract.toNat) →
          t.outKind = .accepted ∧ t.trace = s.trace ++ [⟨t.outCode, tc⟩] ∧ t.evtOut = some ⟨t.outCode, tc⟩ ∧
          t.dbValid = true ∧ t.dbCode = t.outCode ∧ t.dbTime = tc ∧ t.evtCount = s.evtCount + 1#32))

/-- R110, R101: what a run of any events decides (the sequencer, the debounce state, the outcomes and the emitted events)
depends on nothing that an earlier cycle left but the debounce state. ABORT writes OUT_KIND without OUT_TIME, and RESET
writes OUT_SEQ itself, not a count. -/
def Obligations.CyclesAreIndependent : Prop :=
  ∀ (es : List Arrival) (s u s' : State), SameForCycles s u → eventRun es s = some s' →
    ∃ u' : State, eventRun es u = some u' ∧ SameForCycles s' u' ∧
      (s'.outSeq - s.outSeq = u'.outSeq - u.outSeq ∨ s'.outSeq = u'.outSeq ∧ ∃ a ∈ es, a.event = .reset) ∧
      (∃ out, s'.trace = s.trace ++ out ∧ u'.trace = u.trace ++ out) ∧
      ((s'.outKind = u'.outKind ∧ s'.outTime = u'.outTime) ∨
        (s'.outKind = .aborted ∧ u'.outKind = .aborted ∧ s'.outTime = s.outTime ∧ u'.outTime = u.outTime) ∨
        (s'.outKind = s.outKind ∧ s'.outTime = s.outTime ∧ u'.outKind = u.outKind ∧ u'.outTime = u.outTime)) ∧
      (s'.outCode = u'.outCode ∨ (s'.outCode = s.outCode ∧ u'.outCode = u.outCode))

/-- R111: in a run without ABORT and RESET, if the samples of a cycle are at most g µs apart and reach beyond
T0 + CFG_IDLE + CFG_WINDOW + 2 g, the cycle ends among the events, with its outcome recorded no later than that, whatever
host transactions stand between the samples. -/
def Obligations.CycleEndsInTime : Prop :=
  ∀ (s : State) (g : Nat) (first : Arrival) (l0 : Bool) (t0 : Time) (es : List Arrival),
    s.seq = .idleWait → s.t0Valid = false → first.sample? = some (l0, t0) →
    (∀ a ∈ es, a.keepsCycle = true) →
    (∀ u, s.lastT = some u → u.toNat ≤ t0.toNat) → OrderedWithin g t0 (samplesOf es) →
    (∃ x ∈ samplesOf es, t0.toNat + s.cfgIdle.toNat + s.cfgWindow.toNat + 2 * g < x.2.toNat) →
    ∃ (ys zs : List Arrival) (t : State), first :: es = ys ++ zs ∧ eventRun ys s = some t ∧
      t.outSeq = s.outSeq + 1#16 ∧ t.outTime.toNat ≤ t0.toNat + s.cfgIdle.toNat + s.cfgWindow.toNat + 2 * g ∧
      (t.seq = .idleWait ∨ t.seq = .stopped) ∧ t.t0Valid = false

/-! ### Liveness, over infinite runs (R109) -/

/-- R109: in a fair run every running cycle ends, with an outcome or by leaving the running states, as long as the periods
that this cycle itself waits for elapse within the 64-bit clock (log entries 15 and 19). Nothing is assumed of later cycles. -/
def Obligations.FairRunEndsEveryCycle : Prop :=
  ∀ (ev : Nat → Arrival) (st : Nat → State), IsRun ev st → FairSampler ev st →
    ∀ n, running (st n) = true → (∀ m, SameCycle st n m → deadline (st m) < 2 ^ 64) →
    ∃ m, SameCycle st n m ∧ (running (st (m + 1)) = false ∨ (st (m + 1)).outSeq = (st m).outSeq + 1#16)

/-- R109: timeouts are tested at samples only: as long as no sample comes, a cycle that has begun stays open, in its STATE
and with no outcome, for ever if none ever comes, until an ABORT or a RESET, which do end it. -/
def Obligations.OpenCycleNeedsSamples : Prop :=
  ∀ (ev : Nat → Arrival) (st : Nat → State), IsRun ev st →
    ∀ n m, running (st n) = true → (st n).t0Valid = true → n ≤ m →
    (∀ k, n ≤ k → k < m → (ev k).sample? = none ∧ (ev k).keepsCycle = true) →
      (st m).seq = (st n).seq ∧ (st m).t0Valid = true ∧ (st m).outSeq = (st n).outSeq ∧
      (st m).outKind = (st n).outKind ∧ (st m).trace = (st n).trace ∧
      ((ev m).keepsCycle = false → (st (m + 1)).seq = .stopped)
end

