-- ==== Sys2Proof/Laws/Decode.lean ====
section
/-!
SUPPORT. The small lemmas of the formats: each field of an encoded word, and a word from its fields.
-/

namespace Sys2Proof

theorem getLsbD_busWord (b : Bool) (a : Addr) (d : Word) (i : Nat) (hi : i < 45) :
    (busWord b a d).getLsbD i =
      if i < 32 then d.getLsbD i else if i < 44 then a.getLsbD (i - 32) else b := by
  simp only [busWord, BitVec.getLsbD_or, BitVec.getLsbD_shiftLeft, BitVec.getLsbD_setWidth, BitVec.getLsbD_ofBool]
  by_cases h1 : i < 32
  · simp [h1, show i < 44 by omega, hi]
  · have hd : d.getLsbD i = false := BitVec.getLsbD_of_ge _ _ (by omega)
    by_cases h2 : i < 44
    · simp [h1, h2, hi, hd, show i - 32 < 45 by omega]
    · have ha : a.getLsbD (i - 32) = false := BitVec.getLsbD_of_ge _ _ (by omega)
      have h44 : i - 44 = 0 := by omega
      simp [h1, h2, hi, hd, ha, h44]

theorem getLsbD_sampleWord (l : Bool) (t : Time) (i : Nat) (hi : i < 65) :
    (sampleWord l t).getLsbD i = if i < 64 then t.getLsbD i else l := by
  simp only [sampleWord, BitVec.getLsbD_or, BitVec.getLsbD_shiftLeft, BitVec.getLsbD_setWidth, BitVec.getLsbD_ofBool]
  by_cases h1 : i < 64
  · simp [h1, hi]
  · have ht : t.getLsbD i = false := BitVec.getLsbD_of_ge _ _ (by omega)
    have h64 : i - 64 = 0 := by omega
    simp [h1, hi, ht, h64]

theorem wordIndex_toNat (a : Addr) : (wordIndex a).toNat = a.toNat / 4 := by
  have ha := a.isLt
  simp only [wordIndex, BitVec.extractLsb'_toNat, Nat.shiftRight_eq_div_pow]
  omega

@[simp] theorem busIsWrite_busWord (b : Bool) (a : Addr) (d : Word) : busIsWrite (busWord b a d) = b := by
  rw [busIsWrite, getLsbD_busWord _ _ _ _ (by decide), if_neg (by decide), if_neg (by decide)]

@[simp] theorem busAddr_busWord (b : Bool) (a : Addr) (d : Word) : busAddr (busWord b a d) = a := by
  apply BitVec.eq_of_getLsbD_eq
  intro i hi
  rw [busAddr, BitVec.getLsbD_extractLsb', decide_eq_true hi, Bool.true_and,
    getLsbD_busWord _ _ _ _ (by omega), if_neg (by omega), if_pos (by omega), Nat.add_sub_cancel_left]

@[simp] theorem busData_busWord (b : Bool) (a : Addr) (d : Word) : busData (busWord b a d) = d := by
  apply BitVec.eq_of_getLsbD_eq
  intro i hi
  rw [busData, BitVec.getLsbD_extractLsb', decide_eq_true hi, Bool.true_and,
    getLsbD_busWord _ _ _ _ (by omega), if_pos (by omega), Nat.zero_add]

/-- A BUS word is its three fields; none of its bits lies outside them. -/
theorem busWord_fields (w : BusWord) : busWord (busIsWrite w) (busAddr w) (busData w) = w := by
  apply BitVec.eq_of_getLsbD_eq
  intro i hi
  rw [getLsbD_busWord _ _ _ _ hi]
  split
  · rename_i h
    rw [busData, BitVec.getLsbD_extractLsb', decide_eq_true h, Bool.true_and, Nat.zero_add]
  · split
    · rw [busAddr, BitVec.getLsbD_extractLsb', decide_eq_true (by omega), Bool.true_and]
      congr 1; omega
    · rw [busIsWrite, show i = 44 by omega]

@[simp] theorem sampleLevel_sampleWord (l : Bool) (t : Time) : sampleLevel (sampleWord l t) = l := by
  rw [sampleLevel, getLsbD_sampleWord _ _ _ (by decide), if_neg (by decide)]

@[simp] theorem sampleTime_sampleWord (l : Bool) (t : Time) : sampleTime (sampleWord l t) = t := by
  apply BitVec.eq_of_getLsbD_eq
  intro i hi
  rw [sampleTime, BitVec.getLsbD_extractLsb', decide_eq_true hi, Bool.true_and,
    getLsbD_sampleWord _ _ _ (by omega), if_pos (by omega), Nat.zero_add]

/-- A SAMPLE word is its two fields. -/
theorem sampleWord_fields (w : SampleWord) : sampleWord (sampleLevel w) (sampleTime w) = w := by
  apply BitVec.eq_of_getLsbD_eq
  intro i hi
  rw [getLsbD_sampleWord _ _ _ hi]
  split
  · rename_i h
    rw [sampleTime, BitVec.getLsbD_extractLsb', decide_eq_true h, Bool.true_and, Nat.zero_add]
  · rw [sampleLevel, show i = 64 by omega]

/-- A BUS word from its fields decodes by them. -/
@[simp] theorem decodeBus_busWord (b : Bool) (a : Addr) (d : Word) :
    decodeBus (busWord b a d) = if b then decodeWrite a d else .rd a := by
  simp [decodeBus]

@[simp] theorem decodeSample_sampleWord (l : Bool) (t : Time) : decodeSample (sampleWord l t) = .smp l t := by
  simp [decodeSample]

/-! ## Masking -/

/-- Masking a BUS word masks its fields. -/
theorem busWord_and (b b' : Bool) (a a' : Addr) (d d' : Word) :
    busWord b a d &&& busWord b' a' d' = busWord (b && b') (a &&& a') (d &&& d') := by
  apply BitVec.eq_of_getLsbD_eq
  intro i hi
  rw [BitVec.getLsbD_and, getLsbD_busWord _ _ _ i hi, getLsbD_busWord _ _ _ i hi, getLsbD_busWord _ _ _ i hi]
  split
  · rw [BitVec.getLsbD_and]
  · split
    · rw [BitVec.getLsbD_and]
    · rfl

/-- BUS words are equal exactly when their fields are. -/
theorem busWord_inj (b b' : Bool) (a a' : Addr) (d d' : Word) :
    busWord b a d = busWord b' a' d' ↔ b = b' ∧ a = a' ∧ d = d' := by
  constructor
  · intro h
    refine ⟨?_, ?_, ?_⟩
    · simpa using congrArg busIsWrite h
    · simpa using congrArg busAddr h
    · simpa using congrArg busData h
  · rintro ⟨rfl, rfl, rfl⟩; rfl

/-- The mask that keeps `A[11:2]` keeps the selected word (20_memory.md R51). -/
theorem addr_and_eq_iff (a b : Addr) (hb : b &&& 0xFFC#12 = b) :
    a &&& 0xFFC#12 = b ↔ wordIndex a = wordIndex b := by
  have key : ∀ x : Addr, x &&& 0xFFC#12 = BitVec.ofNat 12 ((wordIndex x).toNat * 4) := by
    intro x
    rw [wordIndex_toNat]
    revert x; decide
  constructor
  · rintro rfl
    apply BitVec.eq_of_toNat_eq
    rw [wordIndex_toNat, wordIndex_toNat, key a, wordIndex_toNat]
    have := a.isLt
    simp only [BitVec.toNat_ofNat]
    omega
  · intro h
    rw [← hb, key a, key b, h]

/-- Two addresses select the same word exactly when they differ at most in `A[1:0]` (20_memory.md R51). -/
theorem wordIndex_eq_iff (a b : Addr) : wordIndex a = wordIndex b ↔ a.toNat / 4 = b.toNat / 4 := by
  rw [BitVec.toNat_eq, wordIndex_toNat, wordIndex_toNat]

end Sys2Proof
end

