-- ==== Sys2Proof/Laws/State.lean ====
section
/-!
SUPPORT. What each field of the state is after each shared update: one lemma per field and update, true by rfl.
-/

namespace Sys2Proof.Machine

variable (s : State)

/-! ## Raise CmdErr -/

@[simp] theorem raiseCmdErr_params : (raiseCmdErr s).params = s.params := rfl
@[simp] theorem raiseCmdErr_seq : (raiseCmdErr s).seq = s.seq := rfl
@[simp] theorem raiseCmdErr_stopPend : (raiseCmdErr s).stopPend = s.stopPend := rfl
@[simp] theorem raiseCmdErr_t0Valid : (raiseCmdErr s).t0Valid = s.t0Valid := rfl
@[simp] theorem raiseCmdErr_t0 : (raiseCmdErr s).t0 = s.t0 := rfl
@[simp] theorem raiseCmdErr_ws : (raiseCmdErr s).ws = s.ws := rfl
@[simp] theorem raiseCmdErr_ps : (raiseCmdErr s).ps = s.ps := rfl
@[simp] theorem raiseCmdErr_pcount : (raiseCmdErr s).pcount = s.pcount := rfl
@[simp] theorem raiseCmdErr_pw : (raiseCmdErr s).pw = s.pw := rfl
@[simp] theorem raiseCmdErr_dbValid : (raiseCmdErr s).dbValid = s.dbValid := rfl
@[simp] theorem raiseCmdErr_dbCode : (raiseCmdErr s).dbCode = s.dbCode := rfl
@[simp] theorem raiseCmdErr_dbTime : (raiseCmdErr s).dbTime = s.dbTime := rfl
@[simp] theorem raiseCmdErr_outKind : (raiseCmdErr s).outKind = s.outKind := rfl
@[simp] theorem raiseCmdErr_outSeq : (raiseCmdErr s).outSeq = s.outSeq := rfl
@[simp] theorem raiseCmdErr_outCode : (raiseCmdErr s).outCode = s.outCode := rfl
@[simp] theorem raiseCmdErr_outTime : (raiseCmdErr s).outTime = s.outTime := rfl
@[simp] theorem raiseCmdErr_evtCount : (raiseCmdErr s).evtCount = s.evtCount := rfl
@[simp] theorem raiseCmdErr_cmdErr : (raiseCmdErr s).cmdErr = true := rfl
@[simp] theorem raiseCmdErr_cfgErr : (raiseCmdErr s).cfgErr = s.cfgErr := rfl
@[simp] theorem raiseCmdErr_initFault : (raiseCmdErr s).initFault = s.initFault := rfl
@[simp] theorem raiseCmdErr_cfgIdle : (raiseCmdErr s).cfgIdle = s.cfgIdle := rfl
@[simp] theorem raiseCmdErr_cfgWindow : (raiseCmdErr s).cfgWindow = s.cfgWindow := rfl
@[simp] theorem raiseCmdErr_cfgFloor : (raiseCmdErr s).cfgFloor = s.cfgFloor := rfl
@[simp] theorem raiseCmdErr_cfgThresh : (raiseCmdErr s).cfgThresh = s.cfgThresh := rfl
@[simp] theorem raiseCmdErr_cfgRefract : (raiseCmdErr s).cfgRefract = s.cfgRefract := rfl
@[simp] theorem raiseCmdErr_lastT : (raiseCmdErr s).lastT = s.lastT := rfl
@[simp] theorem raiseCmdErr_inAvail : (raiseCmdErr s).inAvail = s.inAvail := rfl
@[simp] theorem raiseCmdErr_pending : (raiseCmdErr s).pending = s.pending := rfl
@[simp] theorem raiseCmdErr_rdata : (raiseCmdErr s).rdata = s.rdata := rfl
@[simp] theorem raiseCmdErr_evtOut : (raiseCmdErr s).evtOut = s.evtOut := rfl
@[simp] theorem raiseCmdErr_trace : (raiseCmdErr s).trace = s.trace := rfl

/-! ## Raise CfgErr -/

@[simp] theorem raiseCfgErr_params : (raiseCfgErr s).params = s.params := rfl
@[simp] theorem raiseCfgErr_seq : (raiseCfgErr s).seq = s.seq := rfl
@[simp] theorem raiseCfgErr_stopPend : (raiseCfgErr s).stopPend = s.stopPend := rfl
@[simp] theorem raiseCfgErr_t0Valid : (raiseCfgErr s).t0Valid = s.t0Valid := rfl
@[simp] theorem raiseCfgErr_t0 : (raiseCfgErr s).t0 = s.t0 := rfl
@[simp] theorem raiseCfgErr_ws : (raiseCfgErr s).ws = s.ws := rfl
@[simp] theorem raiseCfgErr_ps : (raiseCfgErr s).ps = s.ps := rfl
@[simp] theorem raiseCfgErr_pcount : (raiseCfgErr s).pcount = s.pcount := rfl
@[simp] theorem raiseCfgErr_pw : (raiseCfgErr s).pw = s.pw := rfl
@[simp] theorem raiseCfgErr_dbValid : (raiseCfgErr s).dbValid = s.dbValid := rfl
@[simp] theorem raiseCfgErr_dbCode : (raiseCfgErr s).dbCode = s.dbCode := rfl
@[simp] theorem raiseCfgErr_dbTime : (raiseCfgErr s).dbTime = s.dbTime := rfl
@[simp] theorem raiseCfgErr_outKind : (raiseCfgErr s).outKind = s.outKind := rfl
@[simp] theorem raiseCfgErr_outSeq : (raiseCfgErr s).outSeq = s.outSeq := rfl
@[simp] theorem raiseCfgErr_outCode : (raiseCfgErr s).outCode = s.outCode := rfl
@[simp] theorem raiseCfgErr_outTime : (raiseCfgErr s).outTime = s.outTime := rfl
@[simp] theorem raiseCfgErr_evtCount : (raiseCfgErr s).evtCount = s.evtCount := rfl
@[simp] theorem raiseCfgErr_cmdErr : (raiseCfgErr s).cmdErr = s.cmdErr := rfl
@[simp] theorem raiseCfgErr_cfgErr : (raiseCfgErr s).cfgErr = true := rfl
@[simp] theorem raiseCfgErr_initFault : (raiseCfgErr s).initFault = s.initFault := rfl
@[simp] theorem raiseCfgErr_cfgIdle : (raiseCfgErr s).cfgIdle = s.cfgIdle := rfl
@[simp] theorem raiseCfgErr_cfgWindow : (raiseCfgErr s).cfgWindow = s.cfgWindow := rfl
@[simp] theorem raiseCfgErr_cfgFloor : (raiseCfgErr s).cfgFloor = s.cfgFloor := rfl
@[simp] theorem raiseCfgErr_cfgThresh : (raiseCfgErr s).cfgThresh = s.cfgThresh := rfl
@[simp] theorem raiseCfgErr_cfgRefract : (raiseCfgErr s).cfgRefract = s.cfgRefract := rfl
@[simp] theorem raiseCfgErr_lastT : (raiseCfgErr s).lastT = s.lastT := rfl
@[simp] theorem raiseCfgErr_inAvail : (raiseCfgErr s).inAvail = s.inAvail := rfl
@[simp] theorem raiseCfgErr_pending : (raiseCfgErr s).pending = s.pending := rfl
@[simp] theorem raiseCfgErr_rdata : (raiseCfgErr s).rdata = s.rdata := rfl
@[simp] theorem raiseCfgErr_evtOut : (raiseCfgErr s).evtOut = s.evtOut := rfl
@[simp] theorem raiseCfgErr_trace : (raiseCfgErr s).trace = s.trace := rfl

/-! ## Raise InitFault -/

@[simp] theorem raiseInitFault_params : (raiseInitFault s).params = s.params := rfl
@[simp] theorem raiseInitFault_seq : (raiseInitFault s).seq = s.seq := rfl
@[simp] theorem raiseInitFault_stopPend : (raiseInitFault s).stopPend = s.stopPend := rfl
@[simp] theorem raiseInitFault_t0Valid : (raiseInitFault s).t0Valid = s.t0Valid := rfl
@[simp] theorem raiseInitFault_t0 : (raiseInitFault s).t0 = s.t0 := rfl
@[simp] theorem raiseInitFault_ws : (raiseInitFault s).ws = s.ws := rfl
@[simp] theorem raiseInitFault_ps : (raiseInitFault s).ps = s.ps := rfl
@[simp] theorem raiseInitFault_pcount : (raiseInitFault s).pcount = s.pcount := rfl
@[simp] theorem raiseInitFault_pw : (raiseInitFault s).pw = s.pw := rfl
@[simp] theorem raiseInitFault_dbValid : (raiseInitFault s).dbValid = s.dbValid := rfl
@[simp] theorem raiseInitFault_dbCode : (raiseInitFault s).dbCode = s.dbCode := rfl
@[simp] theorem raiseInitFault_dbTime : (raiseInitFault s).dbTime = s.dbTime := rfl
@[simp] theorem raiseInitFault_outKind : (raiseInitFault s).outKind = s.outKind := rfl
@[simp] theorem raiseInitFault_outSeq : (raiseInitFault s).outSeq = s.outSeq := rfl
@[simp] theorem raiseInitFault_outCode : (raiseInitFault s).outCode = s.outCode := rfl
@[simp] theorem raiseInitFault_outTime : (raiseInitFault s).outTime = s.outTime := rfl
@[simp] theorem raiseInitFault_evtCount : (raiseInitFault s).evtCount = s.evtCount := rfl
@[simp] theorem raiseInitFault_cmdErr : (raiseInitFault s).cmdErr = s.cmdErr := rfl
@[simp] theorem raiseInitFault_cfgErr : (raiseInitFault s).cfgErr = s.cfgErr := rfl
@[simp] theorem raiseInitFault_initFault : (raiseInitFault s).initFault = true := rfl
@[simp] theorem raiseInitFault_cfgIdle : (raiseInitFault s).cfgIdle = s.cfgIdle := rfl
@[simp] theorem raiseInitFault_cfgWindow : (raiseInitFault s).cfgWindow = s.cfgWindow := rfl
@[simp] theorem raiseInitFault_cfgFloor : (raiseInitFault s).cfgFloor = s.cfgFloor := rfl
@[simp] theorem raiseInitFault_cfgThresh : (raiseInitFault s).cfgThresh = s.cfgThresh := rfl
@[simp] theorem raiseInitFault_cfgRefract : (raiseInitFault s).cfgRefract = s.cfgRefract := rfl
@[simp] theorem raiseInitFault_lastT : (raiseInitFault s).lastT = s.lastT := rfl
@[simp] theorem raiseInitFault_inAvail : (raiseInitFault s).inAvail = s.inAvail := rfl
@[simp] theorem raiseInitFault_pending : (raiseInitFault s).pending = s.pending := rfl
@[simp] theorem raiseInitFault_rdata : (raiseInitFault s).rdata = s.rdata := rfl
@[simp] theorem raiseInitFault_evtOut : (raiseInitFault s).evtOut = s.evtOut := rfl
@[simp] theorem raiseInitFault_trace : (raiseInitFault s).trace = s.trace := rfl

/-! ## CLRERR's update -/

@[simp] theorem clearErrors_params : (clearErrors s).params = s.params := rfl
@[simp] theorem clearErrors_seq : (clearErrors s).seq = s.seq := rfl
@[simp] theorem clearErrors_stopPend : (clearErrors s).stopPend = s.stopPend := rfl
@[simp] theorem clearErrors_t0Valid : (clearErrors s).t0Valid = s.t0Valid := rfl
@[simp] theorem clearErrors_t0 : (clearErrors s).t0 = s.t0 := rfl
@[simp] theorem clearErrors_ws : (clearErrors s).ws = s.ws := rfl
@[simp] theorem clearErrors_ps : (clearErrors s).ps = s.ps := rfl
@[simp] theorem clearErrors_pcount : (clearErrors s).pcount = s.pcount := rfl
@[simp] theorem clearErrors_pw : (clearErrors s).pw = s.pw := rfl
@[simp] theorem clearErrors_dbValid : (clearErrors s).dbValid = s.dbValid := rfl
@[simp] theorem clearErrors_dbCode : (clearErrors s).dbCode = s.dbCode := rfl
@[simp] theorem clearErrors_dbTime : (clearErrors s).dbTime = s.dbTime := rfl
@[simp] theorem clearErrors_outKind : (clearErrors s).outKind = s.outKind := rfl
@[simp] theorem clearErrors_outSeq : (clearErrors s).outSeq = s.outSeq := rfl
@[simp] theorem clearErrors_outCode : (clearErrors s).outCode = s.outCode := rfl
@[simp] theorem clearErrors_outTime : (clearErrors s).outTime = s.outTime := rfl
@[simp] theorem clearErrors_evtCount : (clearErrors s).evtCount = s.evtCount := rfl
@[simp] theorem clearErrors_cmdErr : (clearErrors s).cmdErr = false := rfl
@[simp] theorem clearErrors_cfgErr : (clearErrors s).cfgErr = false := rfl
@[simp] theorem clearErrors_initFault : (clearErrors s).initFault = s.initFault := rfl
@[simp] theorem clearErrors_cfgIdle : (clearErrors s).cfgIdle = s.cfgIdle := rfl
@[simp] theorem clearErrors_cfgWindow : (clearErrors s).cfgWindow = s.cfgWindow := rfl
@[simp] theorem clearErrors_cfgFloor : (clearErrors s).cfgFloor = s.cfgFloor := rfl
@[simp] theorem clearErrors_cfgThresh : (clearErrors s).cfgThresh = s.cfgThresh := rfl
@[simp] theorem clearErrors_cfgRefract : (clearErrors s).cfgRefract = s.cfgRefract := rfl
@[simp] theorem clearErrors_lastT : (clearErrors s).lastT = s.lastT := rfl
@[simp] theorem clearErrors_inAvail : (clearErrors s).inAvail = s.inAvail := rfl
@[simp] theorem clearErrors_pending : (clearErrors s).pending = s.pending := rfl
@[simp] theorem clearErrors_rdata : (clearErrors s).rdata = s.rdata := rfl
@[simp] theorem clearErrors_evtOut : (clearErrors s).evtOut = s.evtOut := rfl
@[simp] theorem clearErrors_trace : (clearErrors s).trace = s.trace := rfl

/-! ## The end of a cycle -/

@[simp] theorem finish_params (k : OutKind) (t : Time) : (finish k t s).params = s.params := rfl
@[simp] theorem finish_seq (k : OutKind) (t : Time) : (finish k t s).seq = if s.stopPend then .stopped else .idleWait := rfl
@[simp] theorem finish_stopPend (k : OutKind) (t : Time) : (finish k t s).stopPend = false := rfl
@[simp] theorem finish_t0Valid (k : OutKind) (t : Time) : (finish k t s).t0Valid = false := rfl
@[simp] theorem finish_t0 (k : OutKind) (t : Time) : (finish k t s).t0 = s.t0 := rfl
@[simp] theorem finish_ws (k : OutKind) (t : Time) : (finish k t s).ws = s.ws := rfl
@[simp] theorem finish_ps (k : OutKind) (t : Time) : (finish k t s).ps = s.ps := rfl
@[simp] theorem finish_pcount (k : OutKind) (t : Time) : (finish k t s).pcount = s.pcount := rfl
@[simp] theorem finish_pw (k : OutKind) (t : Time) : (finish k t s).pw = s.pw := rfl
@[simp] theorem finish_dbValid (k : OutKind) (t : Time) : (finish k t s).dbValid = s.dbValid := rfl
@[simp] theorem finish_dbCode (k : OutKind) (t : Time) : (finish k t s).dbCode = s.dbCode := rfl
@[simp] theorem finish_dbTime (k : OutKind) (t : Time) : (finish k t s).dbTime = s.dbTime := rfl
@[simp] theorem finish_outKind (k : OutKind) (t : Time) : (finish k t s).outKind = k := rfl
@[simp] theorem finish_outSeq (k : OutKind) (t : Time) : (finish k t s).outSeq = s.outSeq + 1#16 := rfl
@[simp] theorem finish_outCode (k : OutKind) (t : Time) : (finish k t s).outCode = s.outCode := rfl
@[simp] theorem finish_outTime (k : OutKind) (t : Time) : (finish k t s).outTime = t := rfl
@[simp] theorem finish_evtCount (k : OutKind) (t : Time) : (finish k t s).evtCount = s.evtCount := rfl
@[simp] theorem finish_cmdErr (k : OutKind) (t : Time) : (finish k t s).cmdErr = s.cmdErr := rfl
@[simp] theorem finish_cfgErr (k : OutKind) (t : Time) : (finish k t s).cfgErr = s.cfgErr := rfl
@[simp] theorem finish_initFault (k : OutKind) (t : Time) : (finish k t s).initFault = s.initFault := rfl
@[simp] theorem finish_cfgIdle (k : OutKind) (t : Time) : (finish k t s).cfgIdle = s.cfgIdle := rfl
@[simp] theorem finish_cfgWindow (k : OutKind) (t : Time) : (finish k t s).cfgWindow = s.cfgWindow := rfl
@[simp] theorem finish_cfgFloor (k : OutKind) (t : Time) : (finish k t s).cfgFloor = s.cfgFloor := rfl
@[simp] theorem finish_cfgThresh (k : OutKind) (t : Time) : (finish k t s).cfgThresh = s.cfgThresh := rfl
@[simp] theorem finish_cfgRefract (k : OutKind) (t : Time) : (finish k t s).cfgRefract = s.cfgRefract := rfl
@[simp] theorem finish_lastT (k : OutKind) (t : Time) : (finish k t s).lastT = s.lastT := rfl
@[simp] theorem finish_inAvail (k : OutKind) (t : Time) : (finish k t s).inAvail = s.inAvail := rfl
@[simp] theorem finish_pending (k : OutKind) (t : Time) : (finish k t s).pending = s.pending := rfl
@[simp] theorem finish_rdata (k : OutKind) (t : Time) : (finish k t s).rdata = s.rdata := rfl
@[simp] theorem finish_evtOut (k : OutKind) (t : Time) : (finish k t s).evtOut = s.evtOut := rfl
@[simp] theorem finish_trace (k : OutKind) (t : Time) : (finish k t s).trace = s.trace := rfl

/-! ## An event on the port -/

@[simp] theorem emit_params (c : Word) (t : Time) : (emit c t s).params = s.params := rfl
@[simp] theorem emit_seq (c : Word) (t : Time) : (emit c t s).seq = s.seq := rfl
@[simp] theorem emit_stopPend (c : Word) (t : Time) : (emit c t s).stopPend = s.stopPend := rfl
@[simp] theorem emit_t0Valid (c : Word) (t : Time) : (emit c t s).t0Valid = s.t0Valid := rfl
@[simp] theorem emit_t0 (c : Word) (t : Time) : (emit c t s).t0 = s.t0 := rfl
@[simp] theorem emit_ws (c : Word) (t : Time) : (emit c t s).ws = s.ws := rfl
@[simp] theorem emit_ps (c : Word) (t : Time) : (emit c t s).ps = s.ps := rfl
@[simp] theorem emit_pcount (c : Word) (t : Time) : (emit c t s).pcount = s.pcount := rfl
@[simp] theorem emit_pw (c : Word) (t : Time) : (emit c t s).pw = s.pw := rfl
@[simp] theorem emit_dbValid (c : Word) (t : Time) : (emit c t s).dbValid = s.dbValid := rfl
@[simp] theorem emit_dbCode (c : Word) (t : Time) : (emit c t s).dbCode = s.dbCode := rfl
@[simp] theorem emit_dbTime (c : Word) (t : Time) : (emit c t s).dbTime = s.dbTime := rfl
@[simp] theorem emit_outKind (c : Word) (t : Time) : (emit c t s).outKind = s.outKind := rfl
@[simp] theorem emit_outSeq (c : Word) (t : Time) : (emit c t s).outSeq = s.outSeq := rfl
@[simp] theorem emit_outCode (c : Word) (t : Time) : (emit c t s).outCode = s.outCode := rfl
@[simp] theorem emit_outTime (c : Word) (t : Time) : (emit c t s).outTime = s.outTime := rfl
@[simp] theorem emit_evtCount (c : Word) (t : Time) : (emit c t s).evtCount = s.evtCount := rfl
@[simp] theorem emit_cmdErr (c : Word) (t : Time) : (emit c t s).cmdErr = s.cmdErr := rfl
@[simp] theorem emit_cfgErr (c : Word) (t : Time) : (emit c t s).cfgErr = s.cfgErr := rfl
@[simp] theorem emit_initFault (c : Word) (t : Time) : (emit c t s).initFault = s.initFault := rfl
@[simp] theorem emit_cfgIdle (c : Word) (t : Time) : (emit c t s).cfgIdle = s.cfgIdle := rfl
@[simp] theorem emit_cfgWindow (c : Word) (t : Time) : (emit c t s).cfgWindow = s.cfgWindow := rfl
@[simp] theorem emit_cfgFloor (c : Word) (t : Time) : (emit c t s).cfgFloor = s.cfgFloor := rfl
@[simp] theorem emit_cfgThresh (c : Word) (t : Time) : (emit c t s).cfgThresh = s.cfgThresh := rfl
@[simp] theorem emit_cfgRefract (c : Word) (t : Time) : (emit c t s).cfgRefract = s.cfgRefract := rfl
@[simp] theorem emit_lastT (c : Word) (t : Time) : (emit c t s).lastT = s.lastT := rfl
@[simp] theorem emit_inAvail (c : Word) (t : Time) : (emit c t s).inAvail = s.inAvail := rfl
@[simp] theorem emit_pending (c : Word) (t : Time) : (emit c t s).pending = s.pending := rfl
@[simp] theorem emit_rdata (c : Word) (t : Time) : (emit c t s).rdata = s.rdata := rfl
@[simp] theorem emit_evtOut (c : Word) (t : Time) : (emit c t s).evtOut = some ⟨c, t⟩ := rfl
@[simp] theorem emit_trace (c : Word) (t : Time) : (emit c t s).trace = s.trace ++ [⟨c, t⟩] := rfl

/-! ## An accepted code -/

@[simp] theorem recordAcceptance_params (c : Word) (t : Time) : (recordAcceptance c t s).params = s.params := rfl
@[simp] theorem recordAcceptance_seq (c : Word) (t : Time) : (recordAcceptance c t s).seq = s.seq := rfl
@[simp] theorem recordAcceptance_stopPend (c : Word) (t : Time) : (recordAcceptance c t s).stopPend = s.stopPend := rfl
@[simp] theorem recordAcceptance_t0Valid (c : Word) (t : Time) : (recordAcceptance c t s).t0Valid = s.t0Valid := rfl
@[simp] theorem recordAcceptance_t0 (c : Word) (t : Time) : (recordAcceptance c t s).t0 = s.t0 := rfl
@[simp] theorem recordAcceptance_ws (c : Word) (t : Time) : (recordAcceptance c t s).ws = s.ws := rfl
@[simp] theorem recordAcceptance_ps (c : Word) (t : Time) : (recordAcceptance c t s).ps = s.ps := rfl
@[simp] theorem recordAcceptance_pcount (c : Word) (t : Time) : (recordAcceptance c t s).pcount = s.pcount := rfl
@[simp] theorem recordAcceptance_pw (c : Word) (t : Time) : (recordAcceptance c t s).pw = s.pw := rfl
@[simp] theorem recordAcceptance_dbValid (c : Word) (t : Time) : (recordAcceptance c t s).dbValid = true := rfl
@[simp] theorem recordAcceptance_dbCode (c : Word) (t : Time) : (recordAcceptance c t s).dbCode = c := rfl
@[simp] theorem recordAcceptance_dbTime (c : Word) (t : Time) : (recordAcceptance c t s).dbTime = t := rfl
@[simp] theorem recordAcceptance_outKind (c : Word) (t : Time) : (recordAcceptance c t s).outKind = s.outKind := rfl
@[simp] theorem recordAcceptance_outSeq (c : Word) (t : Time) : (recordAcceptance c t s).outSeq = s.outSeq := rfl
@[simp] theorem recordAcceptance_outCode (c : Word) (t : Time) : (recordAcceptance c t s).outCode = s.outCode := rfl
@[simp] theorem recordAcceptance_outTime (c : Word) (t : Time) : (recordAcceptance c t s).outTime = s.outTime := rfl
@[simp] theorem recordAcceptance_evtCount (c : Word) (t : Time) : (recordAcceptance c t s).evtCount = s.evtCount + 1#32 := rfl
@[simp] theorem recordAcceptance_cmdErr (c : Word) (t : Time) : (recordAcceptance c t s).cmdErr = s.cmdErr := rfl
@[simp] theorem recordAcceptance_cfgErr (c : Word) (t : Time) : (recordAcceptance c t s).cfgErr = s.cfgErr := rfl
@[simp] theorem recordAcceptance_initFault (c : Word) (t : Time) : (recordAcceptance c t s).initFault = s.initFault := rfl
@[simp] theorem recordAcceptance_cfgIdle (c : Word) (t : Time) : (recordAcceptance c t s).cfgIdle = s.cfgIdle := rfl
@[simp] theorem recordAcceptance_cfgWindow (c : Word) (t : Time) : (recordAcceptance c t s).cfgWindow = s.cfgWindow := rfl
@[simp] theorem recordAcceptance_cfgFloor (c : Word) (t : Time) : (recordAcceptance c t s).cfgFloor = s.cfgFloor := rfl
@[simp] theorem recordAcceptance_cfgThresh (c : Word) (t : Time) : (recordAcceptance c t s).cfgThresh = s.cfgThresh := rfl
@[simp] theorem recordAcceptance_cfgRefract (c : Word) (t : Time) : (recordAcceptance c t s).cfgRefract = s.cfgRefract := rfl
@[simp] theorem recordAcceptance_lastT (c : Word) (t : Time) : (recordAcceptance c t s).lastT = s.lastT := rfl
@[simp] theorem recordAcceptance_inAvail (c : Word) (t : Time) : (recordAcceptance c t s).inAvail = s.inAvail := rfl
@[simp] theorem recordAcceptance_pending (c : Word) (t : Time) : (recordAcceptance c t s).pending = s.pending := rfl
@[simp] theorem recordAcceptance_rdata (c : Word) (t : Time) : (recordAcceptance c t s).rdata = s.rdata := rfl
@[simp] theorem recordAcceptance_evtOut (c : Word) (t : Time) : (recordAcceptance c t s).evtOut = s.evtOut := rfl
@[simp] theorem recordAcceptance_trace (c : Word) (t : Time) : (recordAcceptance c t s).trace = s.trace := rfl

/-! ## The start of a capture window -/

@[simp] theorem confirmIdle_params (t : Time) : (confirmIdle t s).params = s.params := rfl
@[simp] theorem confirmIdle_seq (t : Time) : (confirmIdle t s).seq = .captGap := rfl
@[simp] theorem confirmIdle_stopPend (t : Time) : (confirmIdle t s).stopPend = s.stopPend := rfl
@[simp] theorem confirmIdle_t0Valid (t : Time) : (confirmIdle t s).t0Valid = s.t0Valid := rfl
@[simp] theorem confirmIdle_t0 (t : Time) : (confirmIdle t s).t0 = s.t0 := rfl
@[simp] theorem confirmIdle_ws (t : Time) : (confirmIdle t s).ws = t := rfl
@[simp] theorem confirmIdle_ps (t : Time) : (confirmIdle t s).ps = s.ps := rfl
@[simp] theorem confirmIdle_pcount (t : Time) : (confirmIdle t s).pcount = 0#16 := rfl
@[simp] theorem confirmIdle_pw (t : Time) : (confirmIdle t s).pw = clearedSlots s.params := rfl
@[simp] theorem confirmIdle_dbValid (t : Time) : (confirmIdle t s).dbValid = s.dbValid := rfl
@[simp] theorem confirmIdle_dbCode (t : Time) : (confirmIdle t s).dbCode = s.dbCode := rfl
@[simp] theorem confirmIdle_dbTime (t : Time) : (confirmIdle t s).dbTime = s.dbTime := rfl
@[simp] theorem confirmIdle_outKind (t : Time) : (confirmIdle t s).outKind = s.outKind := rfl
@[simp] theorem confirmIdle_outSeq (t : Time) : (confirmIdle t s).outSeq = s.outSeq := rfl
@[simp] theorem confirmIdle_outCode (t : Time) : (confirmIdle t s).outCode = s.outCode := rfl
@[simp] theorem confirmIdle_outTime (t : Time) : (confirmIdle t s).outTime = s.outTime := rfl
@[simp] theorem confirmIdle_evtCount (t : Time) : (confirmIdle t s).evtCount = s.evtCount := rfl
@[simp] theorem confirmIdle_cmdErr (t : Time) : (confirmIdle t s).cmdErr = s.cmdErr := rfl
@[simp] theorem confirmIdle_cfgErr (t : Time) : (confirmIdle t s).cfgErr = s.cfgErr := rfl
@[simp] theorem confirmIdle_initFault (t : Time) : (confirmIdle t s).initFault = s.initFault := rfl
@[simp] theorem confirmIdle_cfgIdle (t : Time) : (confirmIdle t s).cfgIdle = s.cfgIdle := rfl
@[simp] theorem confirmIdle_cfgWindow (t : Time) : (confirmIdle t s).cfgWindow = s.cfgWindow := rfl
@[simp] theorem confirmIdle_cfgFloor (t : Time) : (confirmIdle t s).cfgFloor = s.cfgFloor := rfl
@[simp] theorem confirmIdle_cfgThresh (t : Time) : (confirmIdle t s).cfgThresh = s.cfgThresh := rfl
@[simp] theorem confirmIdle_cfgRefract (t : Time) : (confirmIdle t s).cfgRefract = s.cfgRefract := rfl
@[simp] theorem confirmIdle_lastT (t : Time) : (confirmIdle t s).lastT = s.lastT := rfl
@[simp] theorem confirmIdle_inAvail (t : Time) : (confirmIdle t s).inAvail = s.inAvail := rfl
@[simp] theorem confirmIdle_pending (t : Time) : (confirmIdle t s).pending = s.pending := rfl
@[simp] theorem confirmIdle_rdata (t : Time) : (confirmIdle t s).rdata = s.rdata := rfl
@[simp] theorem confirmIdle_evtOut (t : Time) : (confirmIdle t s).evtOut = s.evtOut := rfl
@[simp] theorem confirmIdle_trace (t : Time) : (confirmIdle t s).trace = s.trace := rfl

/-! ## START's update -/

@[simp] theorem startLoop_params : (startLoop s).params = s.params := rfl
@[simp] theorem startLoop_seq : (startLoop s).seq = .idleWait := rfl
@[simp] theorem startLoop_stopPend : (startLoop s).stopPend = false := rfl
@[simp] theorem startLoop_t0Valid : (startLoop s).t0Valid = false := rfl
@[simp] theorem startLoop_t0 : (startLoop s).t0 = s.t0 := rfl
@[simp] theorem startLoop_ws : (startLoop s).ws = s.ws := rfl
@[simp] theorem startLoop_ps : (startLoop s).ps = s.ps := rfl
@[simp] theorem startLoop_pcount : (startLoop s).pcount = s.pcount := rfl
@[simp] theorem startLoop_pw : (startLoop s).pw = s.pw := rfl
@[simp] theorem startLoop_dbValid : (startLoop s).dbValid = false := rfl
@[simp] theorem startLoop_dbCode : (startLoop s).dbCode = 0#32 := rfl
@[simp] theorem startLoop_dbTime : (startLoop s).dbTime = 0#64 := rfl
@[simp] theorem startLoop_outKind : (startLoop s).outKind = s.outKind := rfl
@[simp] theorem startLoop_outSeq : (startLoop s).outSeq = s.outSeq := rfl
@[simp] theorem startLoop_outCode : (startLoop s).outCode = s.outCode := rfl
@[simp] theorem startLoop_outTime : (startLoop s).outTime = s.outTime := rfl
@[simp] theorem startLoop_evtCount : (startLoop s).evtCount = 0#32 := rfl
@[simp] theorem startLoop_cmdErr : (startLoop s).cmdErr = s.cmdErr := rfl
@[simp] theorem startLoop_cfgErr : (startLoop s).cfgErr = s.cfgErr := rfl
@[simp] theorem startLoop_initFault : (startLoop s).initFault = s.initFault := rfl
@[simp] theorem startLoop_cfgIdle : (startLoop s).cfgIdle = s.cfgIdle := rfl
@[simp] theorem startLoop_cfgWindow : (startLoop s).cfgWindow = s.cfgWindow := rfl
@[simp] theorem startLoop_cfgFloor : (startLoop s).cfgFloor = s.cfgFloor := rfl
@[simp] theorem startLoop_cfgThresh : (startLoop s).cfgThresh = s.cfgThresh := rfl
@[simp] theorem startLoop_cfgRefract : (startLoop s).cfgRefract = s.cfgRefract := rfl
@[simp] theorem startLoop_lastT : (startLoop s).lastT = s.lastT := rfl
@[simp] theorem startLoop_inAvail : (startLoop s).inAvail = s.inAvail := rfl
@[simp] theorem startLoop_pending : (startLoop s).pending = s.pending := rfl
@[simp] theorem startLoop_rdata : (startLoop s).rdata = s.rdata := rfl
@[simp] theorem startLoop_evtOut : (startLoop s).evtOut = s.evtOut := rfl
@[simp] theorem startLoop_trace : (startLoop s).trace = s.trace := rfl

/-! ## ABORT's update -/

@[simp] theorem abortLoop_params : (abortLoop s).params = s.params := rfl
@[simp] theorem abortLoop_seq : (abortLoop s).seq = .stopped := rfl
@[simp] theorem abortLoop_stopPend : (abortLoop s).stopPend = false := rfl
@[simp] theorem abortLoop_t0Valid : (abortLoop s).t0Valid = false := rfl
@[simp] theorem abortLoop_t0 : (abortLoop s).t0 = s.t0 := rfl
@[simp] theorem abortLoop_ws : (abortLoop s).ws = s.ws := rfl
@[simp] theorem abortLoop_ps : (abortLoop s).ps = s.ps := rfl
@[simp] theorem abortLoop_pcount : (abortLoop s).pcount = s.pcount := rfl
@[simp] theorem abortLoop_pw : (abortLoop s).pw = s.pw := rfl
@[simp] theorem abortLoop_dbValid : (abortLoop s).dbValid = s.dbValid := rfl
@[simp] theorem abortLoop_dbCode : (abortLoop s).dbCode = s.dbCode := rfl
@[simp] theorem abortLoop_dbTime : (abortLoop s).dbTime = s.dbTime := rfl
@[simp] theorem abortLoop_outKind : (abortLoop s).outKind = .aborted := rfl
@[simp] theorem abortLoop_outSeq : (abortLoop s).outSeq = s.outSeq + 1#16 := rfl
@[simp] theorem abortLoop_outCode : (abortLoop s).outCode = s.outCode := rfl
@[simp] theorem abortLoop_outTime : (abortLoop s).outTime = s.outTime := rfl
@[simp] theorem abortLoop_evtCount : (abortLoop s).evtCount = s.evtCount := rfl
@[simp] theorem abortLoop_cmdErr : (abortLoop s).cmdErr = s.cmdErr := rfl
@[simp] theorem abortLoop_cfgErr : (abortLoop s).cfgErr = s.cfgErr := rfl
@[simp] theorem abortLoop_initFault : (abortLoop s).initFault = s.initFault := rfl
@[simp] theorem abortLoop_cfgIdle : (abortLoop s).cfgIdle = s.cfgIdle := rfl
@[simp] theorem abortLoop_cfgWindow : (abortLoop s).cfgWindow = s.cfgWindow := rfl
@[simp] theorem abortLoop_cfgFloor : (abortLoop s).cfgFloor = s.cfgFloor := rfl
@[simp] theorem abortLoop_cfgThresh : (abortLoop s).cfgThresh = s.cfgThresh := rfl
@[simp] theorem abortLoop_cfgRefract : (abortLoop s).cfgRefract = s.cfgRefract := rfl
@[simp] theorem abortLoop_lastT : (abortLoop s).lastT = s.lastT := rfl
@[simp] theorem abortLoop_inAvail : (abortLoop s).inAvail = s.inAvail := rfl
@[simp] theorem abortLoop_pending : (abortLoop s).pending = s.pending := rfl
@[simp] theorem abortLoop_rdata : (abortLoop s).rdata = s.rdata := rfl
@[simp] theorem abortLoop_evtOut : (abortLoop s).evtOut = s.evtOut := rfl
@[simp] theorem abortLoop_trace : (abortLoop s).trace = s.trace := rfl

/-! ## An arrival -/

@[simp] theorem receive_params (av : Bool) (r : List Arrival) : (receive av r s).params = s.params := rfl
@[simp] theorem receive_seq (av : Bool) (r : List Arrival) : (receive av r s).seq = s.seq := rfl
@[simp] theorem receive_stopPend (av : Bool) (r : List Arrival) : (receive av r s).stopPend = s.stopPend := rfl
@[simp] theorem receive_t0Valid (av : Bool) (r : List Arrival) : (receive av r s).t0Valid = s.t0Valid := rfl
@[simp] theorem receive_t0 (av : Bool) (r : List Arrival) : (receive av r s).t0 = s.t0 := rfl
@[simp] theorem receive_ws (av : Bool) (r : List Arrival) : (receive av r s).ws = s.ws := rfl
@[simp] theorem receive_ps (av : Bool) (r : List Arrival) : (receive av r s).ps = s.ps := rfl
@[simp] theorem receive_pcount (av : Bool) (r : List Arrival) : (receive av r s).pcount = s.pcount := rfl
@[simp] theorem receive_pw (av : Bool) (r : List Arrival) : (receive av r s).pw = s.pw := rfl
@[simp] theorem receive_dbValid (av : Bool) (r : List Arrival) : (receive av r s).dbValid = s.dbValid := rfl
@[simp] theorem receive_dbCode (av : Bool) (r : List Arrival) : (receive av r s).dbCode = s.dbCode := rfl
@[simp] theorem receive_dbTime (av : Bool) (r : List Arrival) : (receive av r s).dbTime = s.dbTime := rfl
@[simp] theorem receive_outKind (av : Bool) (r : List Arrival) : (receive av r s).outKind = s.outKind := rfl
@[simp] theorem receive_outSeq (av : Bool) (r : List Arrival) : (receive av r s).outSeq = s.outSeq := rfl
@[simp] theorem receive_outCode (av : Bool) (r : List Arrival) : (receive av r s).outCode = s.outCode := rfl
@[simp] theorem receive_outTime (av : Bool) (r : List Arrival) : (receive av r s).outTime = s.outTime := rfl
@[simp] theorem receive_evtCount (av : Bool) (r : List Arrival) : (receive av r s).evtCount = s.evtCount := rfl
@[simp] theorem receive_cmdErr (av : Bool) (r : List Arrival) : (receive av r s).cmdErr = s.cmdErr := rfl
@[simp] theorem receive_cfgErr (av : Bool) (r : List Arrival) : (receive av r s).cfgErr = s.cfgErr := rfl
@[simp] theorem receive_initFault (av : Bool) (r : List Arrival) : (receive av r s).initFault = s.initFault := rfl
@[simp] theorem receive_cfgIdle (av : Bool) (r : List Arrival) : (receive av r s).cfgIdle = s.cfgIdle := rfl
@[simp] theorem receive_cfgWindow (av : Bool) (r : List Arrival) : (receive av r s).cfgWindow = s.cfgWindow := rfl
@[simp] theorem receive_cfgFloor (av : Bool) (r : List Arrival) : (receive av r s).cfgFloor = s.cfgFloor := rfl
@[simp] theorem receive_cfgThresh (av : Bool) (r : List Arrival) : (receive av r s).cfgThresh = s.cfgThresh := rfl
@[simp] theorem receive_cfgRefract (av : Bool) (r : List Arrival) : (receive av r s).cfgRefract = s.cfgRefract := rfl
@[simp] theorem receive_lastT (av : Bool) (r : List Arrival) : (receive av r s).lastT = s.lastT := rfl
@[simp] theorem receive_inAvail (av : Bool) (r : List Arrival) : (receive av r s).inAvail = av := rfl
@[simp] theorem receive_pending (av : Bool) (r : List Arrival) : (receive av r s).pending = r := rfl
@[simp] theorem receive_rdata (av : Bool) (r : List Arrival) : (receive av r s).rdata = none := rfl
@[simp] theorem receive_evtOut (av : Bool) (r : List Arrival) : (receive av r s).evtOut = none := rfl
@[simp] theorem receive_trace (av : Bool) (r : List Arrival) : (receive av r s).trace = s.trace := rfl

/-! ## RESET -/

@[simp] theorem resetEvent_params : (resetEvent s).params = s.params := rfl
@[simp] theorem resetEvent_seq : (resetEvent s).seq = .stopped := rfl
@[simp] theorem resetEvent_stopPend : (resetEvent s).stopPend = false := rfl
@[simp] theorem resetEvent_t0Valid : (resetEvent s).t0Valid = false := rfl
@[simp] theorem resetEvent_t0 : (resetEvent s).t0 = 0#64 := rfl
@[simp] theorem resetEvent_ws : (resetEvent s).ws = 0#64 := rfl
@[simp] theorem resetEvent_ps : (resetEvent s).ps = 0#64 := rfl
@[simp] theorem resetEvent_pcount : (resetEvent s).pcount = 0#16 := rfl
@[simp] theorem resetEvent_pw : (resetEvent s).pw = clearedSlots s.params := rfl
@[simp] theorem resetEvent_dbValid : (resetEvent s).dbValid = false := rfl
@[simp] theorem resetEvent_dbCode : (resetEvent s).dbCode = 0#32 := rfl
@[simp] theorem resetEvent_dbTime : (resetEvent s).dbTime = 0#64 := rfl
@[simp] theorem resetEvent_outKind : (resetEvent s).outKind = .none := rfl
@[simp] theorem resetEvent_outSeq : (resetEvent s).outSeq = 0#16 := rfl
@[simp] theorem resetEvent_outCode : (resetEvent s).outCode = 0#32 := rfl
@[simp] theorem resetEvent_outTime : (resetEvent s).outTime = 0#64 := rfl
@[simp] theorem resetEvent_evtCount : (resetEvent s).evtCount = 0#32 := rfl
@[simp] theorem resetEvent_cmdErr : (resetEvent s).cmdErr = false := rfl
@[simp] theorem resetEvent_cfgErr : (resetEvent s).cfgErr = false := rfl
@[simp] theorem resetEvent_initFault : (resetEvent s).initFault = false := rfl
@[simp] theorem resetEvent_cfgIdle : (resetEvent s).cfgIdle = Config.cfgIdleReset := rfl
@[simp] theorem resetEvent_cfgWindow : (resetEvent s).cfgWindow = Config.cfgWindowReset := rfl
@[simp] theorem resetEvent_cfgFloor : (resetEvent s).cfgFloor = Config.cfgFloorReset := rfl
@[simp] theorem resetEvent_cfgThresh : (resetEvent s).cfgThresh = Config.cfgThreshReset := rfl
@[simp] theorem resetEvent_cfgRefract : (resetEvent s).cfgRefract = Config.cfgRefractReset := rfl
@[simp] theorem resetEvent_lastT : (resetEvent s).lastT = s.lastT := rfl
@[simp] theorem resetEvent_inAvail : (resetEvent s).inAvail = s.inAvail := rfl
@[simp] theorem resetEvent_pending : (resetEvent s).pending = s.pending := rfl
@[simp] theorem resetEvent_rdata : (resetEvent s).rdata = s.rdata := rfl
@[simp] theorem resetEvent_evtOut : (resetEvent s).evtOut = s.evtOut := rfl
@[simp] theorem resetEvent_trace : (resetEvent s).trace = s.trace := rfl

end Sys2Proof.Machine
end

