-- ==== Sys2Proof/Laws/Ops.lean ====
section
/-!
SUPPORT. What each shared operation can do, said once: provers cite these and do not unfold the operations.
-/

namespace Sys2Proof.Machine

variable (s : State)

/-! ## Time and saturation -/

/-- `elapsed(r, t, P)` as a comparison of numbers (40_cycle_fsm.md R105). -/
theorem elapsed_iff (r t : Time) (p : Word) : elapsed r t p = true ↔ p.toNat ≤ t.toNat - r.toNat := by
  unfold elapsed since; exact decide_eq_true_iff

theorem elapsed_of_le {r t : Time} {p : Word} (h : p.toNat ≤ t.toNat - r.toNat) : elapsed r t p = true := by
  rw [elapsed_iff]; exact h

theorem elapsed_of_lt {r t : Time} {p : Word} (h : t.toNat - r.toNat < p.toNat) : elapsed r t p = false := by
  rw [← Bool.not_eq_true, elapsed_iff]; omega

/-- Where t is not before r, `t - r` is the exact difference of the timestamps. -/
theorem since_add {r t : Time} (h : r.toNat ≤ t.toNat) : r.toNat + since r t = t.toNat := by
  unfold since; omega

theorem sat32_toNat (d : Nat) : (sat32 d).toNat = min d 0xFFFFFFFF := by
  simp only [sat32, BitVec.toNat_ofNat]; omega

theorem sat16_toNat (n : Nat) : (sat16 n).toNat = min n 0xFFFF := by
  simp only [sat16, BitVec.toNat_ofNat]; omega

/-- A saturated count that is at most i: the number counted is below i, unless i is past the saturation. -/
theorem le_of_sat16_succ_le {n i : Nat} (h : (sat16 (n + 1)).toNat ≤ i) (hn : n < 65536) : n ≤ i := by
  rw [sat16_toNat] at h; omega

theorem ne_of_sat16_succ_le {n i : Nat} (h : (sat16 (n + 1)).toNat ≤ i) (hn : n < 65535) : n ≠ i := by
  rw [sat16_toNat] at h; omega

theorem le_of_lt_sat16_succ {n i : Nat} (h : i < (sat16 (n + 1)).toNat) : i ≤ n := by
  rw [sat16_toNat] at h; omega

/-- A sample is in order exactly when it is not before LAST_T (40_cycle_fsm.md R102). -/
theorem inOrder_iff (t : Time) : inOrder s t = true ↔ lastTime s ≤ t.toNat := by
  cases h : s.lastT <;> simp [inOrder, lastTime, h]

/-- S is between 32 and 64 (20_memory.md R53). -/
theorem slots_bounds (p : Config.Params) : 32 ≤ p.slots ∧ p.slots ≤ 64 := by
  have := p.nLeader.isLt
  simp only [Config.Params.slots, Config.nData]
  omega

/-! ## Pulse slots -/

theorem slot_eq (i : Nat) : slot s i = s.pw.getD i 0#32 := rfl

/-- A cleared store reads 0 in every slot. -/
theorem clearedSlots_getD (p : Config.Params) (i : Nat) : (clearedSlots p).getD i 0#32 = 0#32 := by
  rw [clearedSlots, List.getD_eq_getElem?_getD, List.getElem?_replicate]
  split <;> rfl

@[simp] theorem clearedSlots_length (p : Config.Params) : (clearedSlots p).length = p.slots := by
  simp [clearedSlots]

/-! ## RecordPulse -/

/-- RecordPulse writes PW and PCOUNT only. -/
theorem recordPulse_eq (d : Nat) :
    recordPulse d s = { s with pw := (recordPulse d s).pw, pcount := (recordPulse d s).pcount } := by
  unfold recordPulse; split <;> rfl

/-- A pulse at or below the floor changes nothing (41_acquirer.md R127). -/
theorem recordPulse_dropped {d : Nat} (h : (sat32 d).toNat ≤ s.cfgFloor.toNat) : recordPulse d s = s := by
  unfold recordPulse; rw [if_neg (by omega)]

/-- A pulse above the floor is counted, and stored while a slot is free (41_acquirer.md R125). -/
theorem recordPulse_kept {d : Nat} (h : s.cfgFloor.toNat < (sat32 d).toNat) :
    recordPulse d s = { s with
      pw := if s.pcount.toNat < s.params.slots then s.pw.set s.pcount.toNat (sat32 d) else s.pw
      pcount := sat16 (s.pcount.toNat + 1) } := by
  unfold recordPulse; rw [if_pos h]

/-! ## The end of a window -/

/-- DebounceStep either suppresses the code or accepts and emits it (43_debounce.md R162). -/
theorem debounceStep_cases (code : Word) (t : Time) :
    (suppress code t s = true ∧ debounceStep code t s = finish .suppressed t { s with outCode := code }) ∨
    (suppress code t s = false ∧ debounceStep code t s =
      finish .accepted t (emit code t (recordAcceptance code t { s with outCode := code }))) := by
  unfold debounceStep
  cases h : suppress code t s <;> simp

/-- When the comparator suppresses (43_debounce.md R160). -/
theorem suppress_iff (code : Word) (t : Time) :
    suppress code t s = true ↔
      s.dbValid = true ∧ s.dbCode = code ∧ t.toNat - s.dbTime.toNat < s.cfgRefract.toNat := by
  unfold suppress since
  rw [Bool.and_eq_true, Bool.and_eq_true, decide_eq_true_iff, decide_eq_true_iff, and_assoc]

/-- Closing a window is one of three outcomes (41_acquirer.md R126, 42_decoder.md R143). -/
theorem closeWindow_cases (t : Time) :
    (s.pcount.toNat < s.params.slots ∧ closeWindow t s = finish .insufficient t s) ∨
    (s.params.slots ≤ s.pcount.toNat ∧ suppress (assemble s) t s = true ∧
      closeWindow t s = finish .suppressed t { s with outCode := assemble s }) ∨
    (s.params.slots ≤ s.pcount.toNat ∧ suppress (assemble s) t s = false ∧
      closeWindow t s =
        finish .accepted t (emit (assemble s) t (recordAcceptance (assemble s) t { s with outCode := assemble s }))) := by
  unfold closeWindow decodeStep
  by_cases h : s.params.slots ≤ s.pcount.toNat
  · rw [if_pos (by simpa [sufficient] using h)]
    rcases debounceStep_cases s (assemble s) t with ⟨h1, h2⟩ | ⟨h1, h2⟩
    · exact .inr (.inl ⟨h, h1, h2⟩)
    · exact .inr (.inr ⟨h, h1, h2⟩)
  · rw [if_neg (by simpa [sufficient] using h)]
    exact .inl ⟨by omega, rfl⟩

/-- Every outcome of a window ends the cycle as `finish` does (40_cycle_fsm.md R104, R107). -/
theorem closeWindow_seq (t : Time) : (closeWindow t s).seq = afterFinish s := by
  rcases closeWindow_cases s t with ⟨_, h⟩ | ⟨_, _, h⟩ | ⟨_, _, h⟩ <;> rw [h] <;> rfl

/-- The frame of closing a window: what it never writes, and what every outcome writes. -/
theorem closeWindow_frame (t : Time) :
    (closeWindow t s).params = s.params ∧ (closeWindow t s).pcount = s.pcount ∧ (closeWindow t s).pw = s.pw ∧
    (closeWindow t s).t0 = s.t0 ∧ (closeWindow t s).ws = s.ws ∧ (closeWindow t s).ps = s.ps ∧
    (closeWindow t s).lastT = s.lastT ∧ (closeWindow t s).t0Valid = false ∧ (closeWindow t s).stopPend = false ∧
    (closeWindow t s).outTime = t ∧ (closeWindow t s).outSeq = s.outSeq + 1#16 := by
  rcases closeWindow_cases s t with ⟨_, h⟩ | ⟨_, _, h⟩ | ⟨_, _, h⟩ <;> rw [h] <;>
    exact ⟨rfl, rfl, rfl, rfl, rfl, rfl, rfl, rfl, rfl, rfl, rfl⟩

/-! ## Samples -/

/-- A sample completes exactly when it is in order (40_cycle_fsm.md R102, R106). -/
theorem exec_smp_eq (l : Bool) (t : Time) :
    exec (.smp l t) s =
      if lastTime s ≤ t.toNat then .next (onSample l t { s with lastT := some t }) else .fault .decreasingTimestamp := by
  simp only [exec, execSmp]
  by_cases h : lastTime s ≤ t.toNat
  · rw [if_pos ((inOrder_iff s t).2 h), if_pos h]
  · rw [if_neg (fun h' => h ((inOrder_iff s t).1 h')), if_neg h]

/-- A sample that completes was in order, and its effect is `onSample` after LAST_T is written. -/
theorem exec_smp_next {s s' : State} {l : Bool} {t : Time} (h : exec (.smp l t) s = .next s') :
    lastTime s ≤ t.toNat ∧ s' = onSample l t { s with lastT := some t } := by
  rw [exec_smp_eq] at h
  split at h
  · cases h; exact ⟨‹_›, rfl⟩
  · cases h

/-- The first sample of a cycle writes T0 and T0_VALID only (41_acquirer.md R120). -/
theorem startIdleWait_eq (t : Time) :
    startIdleWait t s = { s with t0 := if s.t0Valid then s.t0 else t, t0Valid := true } := by
  unfold startIdleWait
  cases h : s.t0Valid
  · simp
  · simp only [if_true]; rw [← h]

/-- What a sample can do, by STATE (40_cycle_fsm.md R104, R106). -/
theorem onSample_cases (l : Bool) (t : Time) :
    ((s.seq = .stopped ∨ s.seq = .fault) ∧ onSample l t s = s) ∨
    (s.seq = .idleWait ∧ l = false ∧ onSample l t s = confirmIdle t (startIdleWait t s)) ∨
    (s.seq = .idleWait ∧ l = true ∧ elapsed (startIdleWait t s).t0 t s.cfgIdle = true ∧
      onSample l t s = finish .noSignal t (startIdleWait t s)) ∨
    (s.seq = .idleWait ∧ l = true ∧ elapsed (startIdleWait t s).t0 t s.cfgIdle = false ∧
      onSample l t s = startIdleWait t s) ∨
    (s.seq = .captGap ∧ elapsed s.ws t s.cfgWindow = true ∧ onSample l t s = closeWindow t s) ∨
    (s.seq = .captGap ∧ elapsed s.ws t s.cfgWindow = false ∧ l = true ∧
      onSample l t s = { s with ps := t, seq := .captHigh }) ∨
    (s.seq = .captGap ∧ elapsed s.ws t s.cfgWindow = false ∧ l = false ∧ onSample l t s = s) ∨
    (s.seq = .captHigh ∧ elapsed s.ws t s.cfgWindow = true ∧
      onSample l t s = closeWindow t (recordPulse (since s.ps t) s)) ∨
    (s.seq = .captHigh ∧ elapsed s.ws t s.cfgWindow = false ∧ l = true ∧ onSample l t s = s) ∨
    (s.seq = .captHigh ∧ elapsed s.ws t s.cfgWindow = false ∧ l = false ∧
      onSample l t s = { recordPulse (since s.ps t) s with seq := .captGap }) := by
  have hc : (startIdleWait t s).cfgIdle = s.cfgIdle := by rw [startIdleWait_eq]
  cases hq : s.seq
  · exact .inl ⟨.inl rfl, by simp [onSample, hq]⟩
  · cases l
    · exact .inr (.inl ⟨rfl, rfl, by simp [onSample, hq, idleWaitSample]⟩)
    · cases he : elapsed (startIdleWait t s).t0 t s.cfgIdle
      · exact .inr (.inr (.inr (.inl ⟨rfl, rfl, rfl, by simp [onSample, hq, idleWaitSample, hc, he]⟩)))
      · exact .inr (.inr (.inl ⟨rfl, rfl, rfl, by simp [onSample, hq, idleWaitSample, hc, he]⟩))
  · cases he : elapsed s.ws t s.cfgWindow
    · cases l
      · simp [onSample, hq, gapSample, he]
      · simp [onSample, hq, gapSample, he]
    · simp [onSample, hq, gapSample, he]
  · cases he : elapsed s.ws t s.cfgWindow
    · cases l
      · simp [onSample, hq, highSample, he]
      · simp [onSample, hq, highSample, he]
    · simp [onSample, hq, highSample, he]
  · exact .inl ⟨.inr rfl, by simp [onSample, hq]⟩

/-! ## Configuration writes -/

/-- A CFG write stores in STOPPED and sets CFG_ERR elsewhere (44_host_interface.md R182). -/
theorem cfgWrite_cases (r : CfgReg) (d : Word) :
    (s.seq = .stopped ∧ cfgWrite r d s = setCfg r d s) ∨ (s.seq ≠ .stopped ∧ cfgWrite r d s = raiseCfgErr s) := by
  unfold cfgWrite
  by_cases h : s.seq = .stopped
  · exact .inl ⟨h, if_pos h⟩
  · exact .inr ⟨h, if_neg h⟩

/-- A CFG register store changes the five CFG registers at most. -/
theorem setCfg_eq (r : CfgReg) (d : Word) :
    setCfg r d s = { s with
      cfgIdle := if r = .idle then d else s.cfgIdle
      cfgWindow := if r = .window then d else s.cfgWindow
      cfgFloor := if r = .floor then d else s.cfgFloor
      cfgThresh := if r = .thresh then d else s.cfgThresh
      cfgRefract := if r = .refract then d else s.cfgRefract } := by
  cases r <;> rfl

/-! ## Register reads -/

/-- A register reads the same in two states that agree on what it shows: the frame of `readValue`. -/
theorem readValue_congr {s t : State} (w : WordIndex)
    (status : w = 0x001#10 → statusWord t = statusWord s) (result : w = 0x002#10 → resultWord t = resultWord s)
    (outCode : w = 0x003#10 → t.outCode = s.outCode) (outTimeLo : w = 0x004#10 → t.outTime = s.outTime)
    (outTimeHi : w = 0x005#10 → t.outTime = s.outTime) (evtCount : w = 0x006#10 → t.evtCount = s.evtCount)
    (pcount : w = 0x007#10 → t.pcount = s.pcount) (dbValid : w = 0x008#10 → t.dbValid = s.dbValid)
    (dbCode : w = 0x009#10 → t.dbCode = s.dbCode) (dbTimeLo : w = 0x00A#10 → t.dbTime = s.dbTime)
    (dbTimeHi : w = 0x00B#10 → t.dbTime = s.dbTime) (cfgIdle : w = 0x010#10 → t.cfgIdle = s.cfgIdle)
    (cfgWindow : w = 0x011#10 → t.cfgWindow = s.cfgWindow) (cfgFloor : w = 0x012#10 → t.cfgFloor = s.cfgFloor)
    (cfgThresh : w = 0x013#10 → t.cfgThresh = s.cfgThresh) (cfgRefract : w = 0x014#10 → t.cfgRefract = s.cfgRefract)
    (params : t.params = s.params) (pw : 0x040 ≤ w.toNat → t.pw = s.pw) : readValue t w = readValue s w := by
  unfold readValue
  rw [params]
  refine ite_congr rfl status fun _ => ite_congr rfl result fun _ => ite_congr rfl outCode fun _ =>
    ite_congr rfl (fun h => by rw [outTimeLo h]) fun _ => ite_congr rfl (fun h => by rw [outTimeHi h]) fun _ =>
    ite_congr rfl evtCount fun _ => ite_congr rfl (fun h => by rw [pcount h]) fun _ =>
    ite_congr rfl (fun h => by rw [dbValid h]) fun _ => ite_congr rfl dbCode fun _ =>
    ite_congr rfl (fun h => by rw [dbTimeLo h]) fun _ => ite_congr rfl (fun h => by rw [dbTimeHi h]) fun _ =>
    ite_congr rfl cfgIdle fun _ => ite_congr rfl cfgWindow fun _ => ite_congr rfl cfgFloor fun _ =>
    ite_congr rfl cfgThresh fun _ => ite_congr rfl cfgRefract fun _ => ite_congr rfl (fun _ => rfl) fun _ =>
    ite_congr rfl (fun h => by rw [slot_eq, slot_eq, pw h.1]) fun _ => rfl

/-- `wordIndex` as a number: the form the statements use (20_memory.md R51). -/
theorem wordIndex_eq_iff_toNat (a : Addr) (m : WordIndex) : wordIndex a = m ↔ a.toNat / 4 = m.toNat := by
  rw [BitVec.toNat_eq, wordIndex_toNat]

/-! ## The step -/

/-- A step takes the oldest arrival: it resets, or executes the decoded word (40_cycle_fsm.md R101). -/
theorem step_cases {s s' : State} (h : step s = .next s') :
    ∃ av rest, (s.pending = ⟨av, .reset⟩ :: rest ∧ s' = resetEvent (receive av rest s)) ∨
      ∃ w, s.pending = ⟨av, .word w⟩ :: rest ∧ exec (decodeWire w) (receive av rest s) = .next s' := by
  unfold step at h
  split at h
  · cases h
  · rename_i av w rest hp; exact ⟨av, rest, .inr ⟨w, hp, h⟩⟩
  · rename_i av rest hp; cases h; exact ⟨av, rest, .inl ⟨hp, rfl⟩⟩

/-- A step does what executing a host operation or an in-order sample does, or resets. -/
theorem exec_next_or_decreasing (i : Instr) :
    (∃ s', exec i s = .next s') ∨ (∃ l t, i = .smp l t ∧ t.toNat < lastTime s ∧ exec i s = .fault .decreasingTimestamp) := by
  cases i with
  | smp l t =>
    rw [exec_smp_eq]
    by_cases h : lastTime s ≤ t.toNat
    · exact .inl ⟨_, if_pos h⟩
    · exact .inr ⟨l, t, rfl, by omega, if_neg h⟩
  | _ => exact .inl ⟨_, rfl⟩

/-- RUNNING by STATE (10_state.md R42). -/
theorem running_iff : running s = true ↔ s.seq = .idleWait ∨ s.seq = .captGap ∨ s.seq = .captHigh := by
  cases h : s.seq <;> simp [running, h]

/-- RUNNING reads STATE only. Cite this where two records differ elsewhere; unifying them may unfold `assemble`. -/
theorem running_congr {s t : State} (h : t.seq = s.seq) : running t = running s := by
  unfold running; rw [h]

/-- `capturing` reads STATE only. -/
theorem capturing_congr {s t : State} (h : t.seq = s.seq) : capturing t = capturing s := by
  unfold capturing; rw [h]

/-- In a running cycle a host operation that is no ABORT, and no STOP at the top, writes STOP_PEND, the two error flags and
the read value at most (44_host_interface.md R180 to R194). -/
theorem exec_host_running {i : Instr} (hr : running s = true) (hs : ∀ l t, i ≠ .smp l t) (ha : i ≠ .abort)
    (ht : i = .stop → ¬(s.seq = .idleWait ∧ s.t0Valid = false)) :
    ∃ t, exec i s = .next t ∧ t = { s with
      stopPend := s.stopPend || decide (i = .stop)
      cmdErr := t.cmdErr
      cfgErr := t.cfgErr
      rdata := t.rdata } := by
  have hq : s.seq ≠ .stopped := by intro h; simp [running, h] at hr
  cases i with
  | smp l t => exact absurd rfl (hs l t)
  | abort => exact absurd rfl ha
  | stop =>
    refine ⟨{ s with stopPend := true }, ?_, by simp⟩
    simp only [exec, execStop, requestStop, if_neg (ht rfl), hr, if_true]
  | start => exact ⟨raiseCmdErr s, by simp only [exec, execStart, if_neg hq], by simp [raiseCmdErr]⟩
  | rd a => exact ⟨_, rfl, by simp⟩
  | nop => exact ⟨_, rfl, by simp⟩
  | clrerr => exact ⟨_, rfl, by simp [clearErrors]⟩
  | cmdReserved d => exact ⟨_, rfl, by simp [raiseCmdErr]⟩
  | wrIgnored a d => exact ⟨_, rfl, by simp⟩
  | wrCfgIdle d => exact ⟨raiseCfgErr s, by simp only [exec, execWrCfgIdle, cfgWrite, if_neg hq], by simp [raiseCfgErr]⟩
  | wrCfgWindow d => exact ⟨raiseCfgErr s, by simp only [exec, execWrCfgWindow, cfgWrite, if_neg hq], by simp [raiseCfgErr]⟩
  | wrCfgFloor d => exact ⟨raiseCfgErr s, by simp only [exec, execWrCfgFloor, cfgWrite, if_neg hq], by simp [raiseCfgErr]⟩
  | wrCfgThresh d => exact ⟨raiseCfgErr s, by simp only [exec, execWrCfgThresh, cfgWrite, if_neg hq], by simp [raiseCfgErr]⟩
  | wrCfgRefract d => exact ⟨raiseCfgErr s, by simp only [exec, execWrCfgRefract, cfgWrite, if_neg hq], by simp [raiseCfgErr]⟩

/-- An open capture window by STATE (40_cycle_fsm.md R103). -/
theorem capturing_iff : capturing s = true ↔ s.seq = .captGap ∨ s.seq = .captHigh := by
  cases h : s.seq <;> simp [capturing, h]

end Sys2Proof.Machine
end

