-- ==== Sys2Proof/Laws/Coherent.lean ====
section
/-!
SUPPORT. What the shared operations keep of coherence, and what RecordPulse does to a sequence of pulses.
-/

namespace Sys2Proof.Machine

variable {s : State}

/-- Later samples keep the past in the past. -/
theorem Coherent.advance {t : Time} (c : Coherent s) (h : lastTime s ≤ t.toNat) :
    Coherent { s with lastT := some t } := by
  obtain ⟨c1, c2, c3, c4, c5, c6, c7, c8, c9, c10, c11, c12, c13, c14, c15, c16, c17, c18, c19, c20, c21⟩ := c
  exact ⟨c1, c2.trans h, c3.trans h, c4.trans h, c5.trans h, c6.trans h, fun e he => (c7 e he).trans h, c8, c9, c10,
    c11, c12, c13, c14, c15, c16, c17, c18, c19, c20, c21⟩

/-- Taking an arrival touches no fact of coherence. -/
theorem Coherent.receive (c : Coherent s) (av : Bool) (rest : List Arrival) : Coherent (receive av rest s) := by
  obtain ⟨c1, c2, c3, c4, c5, c6, c7, c8, c9, c10, c11, c12, c13, c14, c15, c16, c17, c18, c19, c20, c21⟩ := c
  exact ⟨c1, c2, c3, c4, c5, c6, c7, c8, c9, c10, c11, c12, c13, c14, c15, c16, c17, c18, c19, c20, c21⟩

/-- Ending a running cycle at its last sample keeps coherence, whatever the outcome (40_cycle_fsm.md R107). -/
theorem Coherent.finish (c : Coherent s) (k : OutKind) {t : Time} (hl : s.lastT = some t) (hr : running s = true) :
    Coherent (finish k t s) := by
  have hlt : lastTime s = t.toNat := by simp [lastTime, hl]
  have hnf : s.seq ≠ .fault := by intro h; simp [running, h] at hr
  obtain ⟨c1, c2, c3, c4, c5, c6, c7, c8, c9, c10, c11, c12, c13, c14, c15, c16, c17, c18, c19, c20, c21⟩ := c
  have hf : s.initFault = false := by
    cases h : s.initFault
    · rfl
    · exact absurd (c13.1 h) hnf
  refine ⟨c1, c2, c3, c4, c5, hlt.ge, c7, c8, c9, ?_, ?_, ?_, ?_, c14, ?_, ?_, ?_, ?_, ?_, ?_, ?_⟩
  all_goals clear c1 c2 c3 c4 c5 c6 c7 c8 c9 c10 c11 c12 c13 c14 c15 c16 c17 c18 c19 c20 c21
  all_goals (cases h : s.stopPend <;> simp [capturing, h, hf])

/-- The pulses of `l` that exceed the floor, saturated (41_acquirer.md R125, R128). -/
def keptPulses (floor : Word) (l : List Nat) : List Word := (l.map sat32).filter fun w => decide (floor.toNat < w.toNat)

/-- PCOUNT and PW hold the pulse sequence `P`: its saturated length, its first S entries, and 0 after them. -/
def Holds (s : State) (P : List Word) : Prop :=
  s.pw.length = s.params.slots ∧ s.pcount.toNat = min P.length 0xFFFF ∧
    ∀ i, i < s.params.slots → slot s i = P.getD i 0#32

/-- RecordPulse appends the pulse to the sequence held, if it is kept (41_acquirer.md R125). -/
theorem Holds.recordPulse {P : List Word} (h : Holds s P) (d : Nat) :
    Holds (recordPulse d s) (P ++ keptPulses s.cfgFloor [d]) := by
  obtain ⟨h1, h2, h3⟩ := h
  have hb := slots_bounds s.params
  by_cases hk : s.cfgFloor.toNat < (sat32 d).toNat
  · have : keptPulses s.cfgFloor [d] = [sat32 d] := by
      simp only [keptPulses, List.map, List.filter, decide_eq_true hk]
    rw [this, recordPulse_kept s hk]
    generalize sat32 d = w
    refine ⟨?_, ?_, ?_⟩
    · simp only []; split <;> simp [h1]
    · rw [List.length_append, List.length_singleton]
      show (sat16 (s.pcount.toNat + 1)).toNat = _
      rw [sat16_toNat, h2]; clear * -; omega
    · intro i hi
      simp only [slot_eq]
      have hi : i < s.params.slots := hi
      have h3i := h3 i hi
      rw [slot_eq] at h3i
      split
      · rename_i hp
        have hl : s.pcount.toNat = P.length := by clear * - h2 hb hp; omega
        by_cases e : s.pcount.toNat = i
        · subst e
          rw [List.getD_eq_getElem?_getD, List.getElem?_set_self (by rw [h1]; exact hi),
            List.getD_eq_getElem?_getD, List.getElem?_append_right (by rw [hl])]
          simp [hl]
        · rw [List.getD_eq_getElem?_getD, List.getElem?_set_ne e, ← List.getD_eq_getElem?_getD, h3i]
          rcases Nat.lt_or_ge i P.length with hlt | hge
          · rw [List.getD_eq_getElem?_getD, List.getD_eq_getElem?_getD, List.getElem?_append_left hlt]
          · rw [List.getD_eq_default _ _ hge, List.getD_eq_default]
            rw [List.length_append, List.length_singleton]
            clear * - hl e hge; omega
      · rename_i hp
        have hl : s.params.slots ≤ P.length := by clear * - h2 hb hp; omega
        rw [h3i, List.getD_eq_getElem?_getD, List.getD_eq_getElem?_getD,
          List.getElem?_append_left (lt_of_lt_of_le hi hl)]
  · have : keptPulses s.cfgFloor [d] = [] := by simp only [keptPulses, List.map, List.filter, decide_eq_false hk]
    rw [this, recordPulse_dropped s (not_lt.1 hk), List.append_nil]
    exact ⟨h1, h2, h3⟩

/-- A pulse recorded in CAPT_HIGH keeps coherence (41_acquirer.md R127, R128). -/
theorem Coherent.recordPulse (c : Coherent s) (hq : s.seq = .captHigh) (d : Nat) : Coherent (recordPulse d s) := by
  by_cases h : s.cfgFloor.toNat < (sat32 d).toNat
  · have hb := slots_bounds s.params
    obtain ⟨c1, c2, c3, c4, c5, c6, c7, c8, c9, c10, c11, c12, c13, c14, c15, c16, c17, c18, c19, c20, c21⟩ := c
    have hc : capturing s = true := by simp [capturing, hq]
    rw [recordPulse_kept s h]
    refine ⟨?_, c2, c3, c4, c5, c6, c7, c8, c9, c10, c11, c12, c13, ?_, ?_, c16, c17, c18, c19, c20, c21⟩
    · simp only []; split <;> simp [c1]
    · intro i hi
      simp only [slot_eq]
      have h0 := c14 i (le_of_sat16_succ_le hi s.pcount.isLt)
      rw [slot_eq] at h0
      split
      · rename_i hp
        have hne : s.pcount.toNat ≠ i := ne_of_sat16_succ_le hi (lt_of_lt_of_le hp (hb.2.trans (by decide)))
        rw [List.getD_eq_getElem?_getD, List.getElem?_set_ne hne, ← List.getD_eq_getElem?_getD]; exact h0
      · exact h0
    · intro _ i hi hs
      have hi := le_of_lt_sat16_succ hi
      have hs : i < s.params.slots := hs
      simp only [slot_eq]
      split
      · by_cases e : s.pcount.toNat = i
        · subst e
          rw [List.getD_eq_getElem?_getD, List.getElem?_set_self (c1 ▸ hs)]
          exact h
        · rw [List.getD_eq_getElem?_getD, List.getElem?_set_ne e, ← List.getD_eq_getElem?_getD]
          exact c15 hc i (lt_of_le_of_ne hi (Ne.symm e)) hs
      · rename_i hp; exact c15 hc i (lt_of_lt_of_le hs (not_lt.1 hp)) hs
  · rw [recordPulse_dropped s (not_lt.1 h)]; exact c

end Sys2Proof.Machine
end

