-- ==== Sys2Proof/Laws/PerInstr.lean ====
section
/-!
SUPPORT. A fact of every instruction, one lemma per constructor: its encoding stands on the port its format names, and
carries the fixed bits of its own row of opcode_table.json.
-/

namespace Sys2Proof.Laws.EncodesRow

/-- The encoding of `i` is a SAMPLE word for SMP; else it is a BUS word that the row of that mnemonic matches. -/
def Statement (i : Instr) : Prop :=
  match encode i with
  | .sample _ => mnemonicOf i = "SMP"
  | .bus w => ∃ r ∈ busTable, r.mnemonic = mnemonicOf i ∧ w &&& r.mask = r.matchBits

/-- A write to a fixed word carries the bits of a row that fixes W = 1 and `A[11:2]`, whatever its data. -/
theorem write_masked (a m : Addr) (d : Word) (h : a &&& 0xFFC#12 = m) :
    busWord true a d &&& 0x1FFC00000000#45 = busWord true m 0#32 := by
  rw [show (0x1FFC00000000#45 : BusWord) = busWord true 0xFFC#12 0#32 by decide, busWord_and, h]
  simp

theorem rd (a : Addr) : Statement (.rd a) := by
  refine ⟨⟨"RD", 0x000000000000#45, 0x100000000000#45⟩, by decide, rfl, ?_⟩
  rw [show (0x100000000000#45 : BusWord) = busWord true 0#12 0#32 by decide, busWord_and]
  simp; decide

theorem nop : Statement .nop :=
  ⟨⟨"NOP", 0x100000000000#45, 0x1FFCFFFFFFFF#45⟩, by decide, rfl, by decide⟩

theorem start : Statement .start :=
  ⟨⟨"START", 0x100000000001#45, 0x1FFCFFFFFFFF#45⟩, by decide, rfl, by decide⟩

theorem stop : Statement .stop :=
  ⟨⟨"STOP", 0x100000000002#45, 0x1FFCFFFFFFFF#45⟩, by decide, rfl, by decide⟩

theorem abort : Statement .abort :=
  ⟨⟨"ABORT", 0x100000000003#45, 0x1FFCFFFFFFFF#45⟩, by decide, rfl, by decide⟩

theorem clrerr : Statement .clrerr :=
  ⟨⟨"CLRERR", 0x100000000004#45, 0x1FFCFFFFFFFF#45⟩, by decide, rfl, by decide⟩

theorem cmdReserved (d : Word) : Statement (.cmdReserved d) :=
  ⟨⟨"CMD_RESERVED", 0x100000000000#45, 0x1FFC00000000#45⟩, by decide, rfl,
    (write_masked _ _ d (by decide : (0x000#12 : Addr) &&& 0xFFC#12 = 0x000#12)).trans (by decide)⟩

theorem wrCfgIdle (d : Word) : Statement (.wrCfgIdle d) :=
  ⟨⟨"WR_CFG_IDLE", 0x104000000000#45, 0x1FFC00000000#45⟩, by decide, rfl,
    (write_masked _ _ d (by decide : (0x040#12 : Addr) &&& 0xFFC#12 = 0x040#12)).trans (by decide)⟩

theorem wrCfgWindow (d : Word) : Statement (.wrCfgWindow d) :=
  ⟨⟨"WR_CFG_WINDOW", 0x104400000000#45, 0x1FFC00000000#45⟩, by decide, rfl,
    (write_masked _ _ d (by decide : (0x044#12 : Addr) &&& 0xFFC#12 = 0x044#12)).trans (by decide)⟩

theorem wrCfgFloor (d : Word) : Statement (.wrCfgFloor d) :=
  ⟨⟨"WR_CFG_FLOOR", 0x104800000000#45, 0x1FFC00000000#45⟩, by decide, rfl,
    (write_masked _ _ d (by decide : (0x048#12 : Addr) &&& 0xFFC#12 = 0x048#12)).trans (by decide)⟩

theorem wrCfgThresh (d : Word) : Statement (.wrCfgThresh d) :=
  ⟨⟨"WR_CFG_THRESH", 0x104C00000000#45, 0x1FFC00000000#45⟩, by decide, rfl,
    (write_masked _ _ d (by decide : (0x04C#12 : Addr) &&& 0xFFC#12 = 0x04C#12)).trans (by decide)⟩

theorem wrCfgRefract (d : Word) : Statement (.wrCfgRefract d) :=
  ⟨⟨"WR_CFG_REFRACT", 0x105000000000#45, 0x1FFC00000000#45⟩, by decide, rfl,
    (write_masked _ _ d (by decide : (0x050#12 : Addr) &&& 0xFFC#12 = 0x050#12)).trans (by decide)⟩

theorem wrIgnored (a : Addr) (d : Word) : Statement (.wrIgnored a d) := by
  refine ⟨⟨"WR_IGNORED", 0x100000000000#45, 0x100000000000#45⟩, by decide, rfl, ?_⟩
  rw [show (0x100000000000#45 : BusWord) = busWord true 0#12 0#32 by decide, busWord_and]
  simp

theorem smp (l : Bool) (t : Time) : Statement (.smp l t) := rfl

end Sys2Proof.Laws.EncodesRow
end

