-- ==== Sys2Proof/Laws/Runs.lean ====
section
/-!
SUPPORT. What one arrival does in a run: a sample, a host operation in a running cycle, ABORT and RESET.
-/

namespace Sys2Proof.Machine

variable (s : State)

/-- No BUS word is a sample (30_encoding.md R75). -/
theorem decodeBus_ne_smp (w : BusWord) (l : Bool) (t : Time) : decodeBus w ≠ .smp l t := by
  unfold decodeBus decodeWrite decodeCommand
  repeat' split
  all_goals exact fun h => nomatch h

/-- An arrival is one of four: RESET, a sample, ABORT, or another host operation. -/
theorem arrival_cases (a : Arrival) :
    (a.event = .reset ∧ a.sample? = none ∧ a.keepsCycle = false ∧ a.stops = false) ∨
    ∃ w, a.event = .word w ∧ a.stops = decide (decodeWire w = .stop) ∧ a.keepsCycle = decide (decodeWire w ≠ .abort) ∧
      ((∃ l t, decodeWire w = .smp l t ∧ a.sample? = some (l, t)) ∨
        ((∀ l t, decodeWire w ≠ .smp l t) ∧ a.sample? = none)) := by
  obtain ⟨av, e⟩ := a
  cases e with
  | reset => exact .inl ⟨rfl, rfl, rfl, rfl⟩
  | word w =>
    refine .inr ⟨w, rfl, rfl, rfl, ?_⟩
    cases w with
    | bus w => exact .inr ⟨decodeBus_ne_smp w, rfl⟩
    | sample w => exact .inl ⟨_, _, rfl, rfl⟩

/-- An arrival of a word is the execution of its instruction (40_cycle_fsm.md R101). -/
theorem arrive_word {a : Arrival} {w : WireWord} (h : a.event = .word w) :
    arrive a s = exec (decodeWire w) (receive a.inAvail s.pending s) := by
  obtain ⟨av, e⟩ := a
  subst h; rfl

theorem arrive_reset {a : Arrival} (h : a.event = .reset) :
    arrive a s = .next (resetEvent (receive a.inAvail s.pending s)) := by
  obtain ⟨av, e⟩ := a
  subst h; rfl

/-- A sample in order completes, as `onSample` in the state that has taken it (40_cycle_fsm.md R106). -/
theorem arrive_sample {a : Arrival} {l : Bool} {t : Time} (h : a.sample? = some (l, t)) (ho : lastTime s ≤ t.toNat) :
    arrive a s = .next (onSample l t { receive a.inAvail s.pending s with lastT := some t }) := by
  rcases arrival_cases a with ⟨_, h', _⟩ | ⟨w, hw, _, _, ⟨l', t', hd, h'⟩ | ⟨_, h'⟩⟩
  · rw [h] at h'; cases h'
  · rw [h] at h'; cases h'
    rw [arrive_word s hw, hd, exec_smp_eq]
    exact if_pos ho
  · rw [h] at h'; cases h'

/-- In a running cycle a host operation that is no ABORT, and no STOP at the top, leaves all but STOP_PEND, the two error
flags and the ports. -/
theorem arrive_host {a : Arrival} (hr : running s = true) (hs : a.sample? = none) (hk : a.keepsCycle = true)
    (ht : a.stops = true → ¬(s.seq = .idleWait ∧ s.t0Valid = false)) :
    ∃ t, arrive a s = .next t ∧ t = { s with
      stopPend := s.stopPend || a.stops
      cmdErr := t.cmdErr
      cfgErr := t.cfgErr
      inAvail := a.inAvail
      rdata := t.rdata
      evtOut := none } := by
  rcases arrival_cases a with ⟨_, _, h', _⟩ | ⟨w, hw, h1, h2, ⟨l', t', _, h'⟩ | ⟨h3, _⟩⟩
  · rw [hk] at h'; cases h'
  · rw [hs] at h'; cases h'
  · rw [h1] at ht ⊢
    obtain ⟨t, e1, e2⟩ := exec_host_running (receive a.inAvail s.pending s) (i := decodeWire w)
      ((running_congr rfl).trans hr) h3 (by simpa [h2] using hk) (fun h => ht (decide_eq_true h))
    exact ⟨t, (arrive_word s hw).trans e1, e2⟩

/-- ABORT in a running cycle (44_host_interface.md R192). -/
theorem arrive_abort {a : Arrival} {w : WireWord} (hw : a.event = .word w) (hd : decodeWire w = .abort)
    (hr : running s = true) : arrive a s = .next (abortLoop (receive a.inAvail s.pending s)) := by
  rw [arrive_word s hw, hd]
  exact congrArg _ (if_pos ((running_congr rfl).trans hr))

/-- What a sample that completed did. -/
theorem arrive_sample_next {s t : State} {a : Arrival} {l : Bool} {u : Time} (hs : a.sample? = some (l, u))
    (h : arrive a s = .next t) :
    lastTime s ≤ u.toNat ∧ t = onSample l u { receive a.inAvail s.pending s with lastT := some u } := by
  rcases arrival_cases a with ⟨_, h', _⟩ | ⟨w, hw, _, _, ⟨l', t', hd, h'⟩ | ⟨_, h'⟩⟩
  · rw [hs] at h'; cases h'
  · rw [hs] at h'; cases h'
    rw [arrive_word s hw, hd] at h
    exact exec_smp_next h
  · rw [hs] at h'; cases h'

/-- A sample in an open window closes it at its end, and else leaves it open (41_acquirer.md R123, R124). -/
theorem onSample_capturing (l : Bool) (t : Time) (hc : capturing s = true) :
    (s.cfgWindow.toNat ≤ t.toNat - s.ws.toNat ∧
      ∃ r, (r = s ∨ r = recordPulse (since s.ps t) s) ∧ onSample l t s = closeWindow t r) ∨
    (t.toNat - s.ws.toNat < s.cfgWindow.toNat ∧ capturing (onSample l t s) = true ∧ (onSample l t s).ws = s.ws ∧
      (onSample l t s).cfgWindow = s.cfgWindow ∧ (onSample l t s).outSeq = s.outSeq ∧
      (onSample l t s).lastT = s.lastT) := by
  rw [capturing_iff] at hc
  by_cases he : s.cfgWindow.toNat ≤ t.toNat - s.ws.toNat
  · have h := elapsed_of_le he
    refine .inl ⟨he, ?_⟩
    rcases hc with hc | hc
    · exact ⟨s, .inl rfl, by simp only [onSample, hc, gapSample, h, if_true]⟩
    · exact ⟨_, .inr rfl, by simp only [onSample, hc, highSample, h, if_true]⟩
  · have h := elapsed_of_lt (not_le.1 he)
    refine .inr ⟨not_le.1 he, ?_⟩
    rcases hc with hc | hc <;> cases l
    · rw [show onSample false t s = s by simp [onSample, hc, gapSample, h]]
      exact ⟨by rw [capturing_iff]; exact .inl hc, rfl, rfl, rfl, rfl⟩
    · rw [show onSample true t s = { s with ps := t, seq := .captHigh } by simp [onSample, hc, gapSample, h]]
      exact ⟨rfl, rfl, rfl, rfl, rfl⟩
    · rw [show onSample false t s = { recordPulse (since s.ps t) s with seq := .captGap } by
        simp only [onSample, hc, highSample, h]; rfl]
      refine ⟨rfl, ?_, ?_, ?_, ?_⟩ <;> rw [recordPulse_eq]
    · rw [show onSample true t s = s by simp [onSample, hc, highSample, h]]
      exact ⟨by rw [capturing_iff]; exact .inr hc, rfl, rfl, rfl, rfl⟩

/-- A cycle still runs after one more event that keeps it running and records nothing. -/
theorem SameCycle.succ {st : Nat → State} {n m : Nat} (h : SameCycle st n m) (hr : running (st (m + 1)) = true)
    (ho : (st (m + 1)).outSeq = (st m).outSeq) : SameCycle st n (m + 1) := by
  refine ⟨Nat.le_succ_of_le h.1, fun k hk hkm => ?_⟩
  rcases Nat.lt_succ_iff_lt_or_eq.1 hkm with hlt | rfl
  · exact h.2 k hk hlt
  · exact ⟨hr, ho⟩

theorem SameCycle.refl (st : Nat → State) (n : Nat) : SameCycle st n n :=
  ⟨Nat.le_refl n, fun _ h1 h2 => absurd h2 (Nat.not_lt.2 h1)⟩

theorem eventRun_cons {a : Arrival} {t : State} (h : arrive a s = .next t) (es : List Arrival) :
    eventRun (a :: es) s = eventRun es t := by
  rw [eventRun, h]

theorem samplesOf_cons_sample {a : Arrival} {x : Bool × Time} (h : a.sample? = some x) (es : List Arrival) :
    samplesOf (a :: es) = x :: samplesOf es := List.filterMap_cons_some h

theorem samplesOf_cons_host {a : Arrival} (h : a.sample? = none) (es : List Arrival) :
    samplesOf (a :: es) = samplesOf es := List.filterMap_cons_none h

end Sys2Proof.Machine
end

