-- ==== Sys2Proof/Tests/Slice0.lean ====
section
/-!
SUPPORT. Tests of one step each, with expected values from 95_test_vectors.md (the vector's id stands in each docstring)
or from the formats of 30_encoding.md, and for every obligation with hypotheses a witness that meets them.
-/

namespace Sys2Proof.Tests

open Sys2Proof.Machine

/-! ## Helpers -/

/-- The state a step leads to, none where it stops. -/
def next (o : Host.Outcome State Fault Refusal) : Option State :=
  match o with
  | .next s => some s
  | .fault _ => none
  | .refused _ => none

/-- The fault a step stops with. -/
def faultOf (o : Host.Outcome State Fault Refusal) : Option Fault :=
  match o with
  | .next _ => none
  | .fault f => some f
  | .refused _ => none

/-- After RESET and START (95_test_vectors.md, notation). -/
def idle : State := { State.reset with seq := .idleWait }

/-- A window open since 0. -/
def gap : State := { State.reset with seq := .captGap, t0Valid := true }

/-- A pulse measured in a window open since 0. -/
def high : State := { State.reset with seq := .captHigh, t0Valid := true }

/-- Sixteen pairs of data pulses. -/
def pairs (a b : Word) : List Word := (List.replicate 16 [a, b]).flatten

/-- The frame FA of 95_test_vectors.md. -/
def frameA : List Word := 5000#32 :: pairs 1200#32 500#32

/-- A complete frame in a window since `ws`. -/
def framed (ws : Time) (pw : List Word) : State := { gap with ws := ws, pcount := 33#16, pw := pw }

/-! ## Well-formedness -/

theorem test_wf_refuses_cmdReserved_of_a_command : (Instr.cmdReserved 3#32).wellFormed = false := by decide
theorem test_wf_refuses_cmdReserved_of_nop : (Instr.cmdReserved 0#32).wellFormed = false := by decide
theorem test_wf_refuses_wrIgnored_to_cmd : (Instr.wrIgnored 0x003#12 1#32).wellFormed = false := by decide
theorem test_wf_refuses_wrIgnored_to_cfg : (Instr.wrIgnored 0x050#12 1#32).wellFormed = false := by decide
theorem test_wf_accepts_cmdReserved : (Instr.cmdReserved 5#32).wellFormed = true := by decide
theorem test_wf_accepts_wrIgnored : (Instr.wrIgnored 0x054#12 5#32).wellFormed = true := by decide

/-! ## Decoding: words written out field by field, W then A then D, or L then T (30_encoding.md R71, R72) -/

theorem test_decode_rd : decodeBus (0#1 ++ 0b000001010111#12 ++ 0xDEADBEEF#32) = .rd 0x057#12 := by decide
theorem test_decode_nop : decodeBus (1#1 ++ 0b000000000010#12 ++ 0x00000000#32) = .nop := by decide
theorem test_decode_start : decodeBus (1#1 ++ 0b000000000011#12 ++ 0x00000001#32) = .start := by decide
theorem test_decode_stop : decodeBus (1#1 ++ 0b000000000000#12 ++ 0x00000002#32) = .stop := by decide
theorem test_decode_abort : decodeBus (1#1 ++ 0b000000000001#12 ++ 0x00000003#32) = .abort := by decide
theorem test_decode_clrerr : decodeBus (1#1 ++ 0b000000000000#12 ++ 0x00000004#32) = .clrerr := by decide
theorem test_decode_cmdReserved_op : decodeBus (1#1 ++ 0b000000000000#12 ++ 0x00000007#32) = .cmdReserved 7#32 := by decide
theorem test_decode_cmdReserved_mbz : decodeBus (1#1 ++ 0b000000000000#12 ++ 0x00000011#32) = .cmdReserved 0x11#32 := by
  decide
theorem test_decode_wrCfgIdle : decodeBus (1#1 ++ 0b000001000001#12 ++ 0x00000005#32) = .wrCfgIdle 5#32 := by decide
theorem test_decode_wrCfgWindow : decodeBus (1#1 ++ 0b000001000100#12 ++ 0x80000000#32) = .wrCfgWindow 0x80000000#32 := by
  decide
theorem test_decode_wrCfgFloor : decodeBus (1#1 ++ 0b000001001000#12 ++ 0x00000064#32) = .wrCfgFloor 100#32 := by decide
theorem test_decode_wrCfgThresh : decodeBus (1#1 ++ 0b000001001100#12 ++ 0x00000514#32) = .wrCfgThresh 1300#32 := by decide
theorem test_decode_wrCfgRefract : decodeBus (1#1 ++ 0b000001010000#12 ++ 0x0007A120#32) = .wrCfgRefract 500000#32 := by
  decide
theorem test_decode_wrIgnored_param : decodeBus (1#1 ++ 0b000001010100#12 ++ 0x00000005#32) = .wrIgnored 0x054#12 5#32 := by
  decide
theorem test_decode_wrIgnored_top : decodeBus 0x1FFC00000001#45 = .wrIgnored 0xFFC#12 1#32 := by decide
theorem test_decode_smp : decodeSample (1#1 ++ 0x00000000000003E8#64) = .smp true 1000#64 := by decide
theorem test_decode_smp_low : decodeSample 0x0FFFFFFFFFFFFFFFF#65 = .smp false 0xFFFFFFFFFFFFFFFF#64 := by decide

/-- 95_test_vectors.md 2.6, from the encoder's side. -/
theorem test_encode_thresh : encode (.wrCfgThresh 1300#32) = .bus 0x104C00000514#45 := by decide
theorem test_encode_smp : encode (.smp true 1000#64) = .sample 0x100000000000003E8#65 := by decide

theorem test_decodeTableWord_bus : decodeTableWord 48 0x104C00000514 = some (.wrCfgThresh 1300#32) := by decide
theorem test_decodeTableWord_sample : decodeTableWord 72 0x100000000000003E8 = some (.smp true 1000#64) := by decide
/-- Bit 45 is no bit of a BUS word, bit 65 none of a SAMPLE word. -/
theorem test_decodeTableWord_refuses : decodeTableWord 48 0x200000000000 = none ∧ decodeTableWord 72 (2 ^ 65) = none := by
  decide

/-! ## Register reads and writes -/

/-- H1: PARAM of the default build. -/
theorem test_rd_param : (next (exec (.rd 0x057#12) State.reset)).map (·.rdata) = some (some 0x00212001#32) := by decide
/-- H3: PW_33 is not implemented; H22: PW_0 is at 0x100. -/
theorem test_rd_slots : readAddr { gap with pw := 7#32 :: List.replicate 32 9#32 } 0x100#12 = 7#32 ∧
    readAddr { gap with pw := 7#32 :: List.replicate 32 9#32 } 0x180#12 = 9#32 ∧
    readAddr { gap with pw := 7#32 :: List.replicate 32 9#32 } 0x184#12 = 0#32 := by decide
/-- H13: STATUS of IDLE_WAIT with a stop pending. -/
theorem test_status_stop_pending : readAddr { idle with t0Valid := true, stopPend := true } 0x004#12 = 0x00000019#32 := by
  decide
/-- H15: RESULT. -/
theorem test_result_word : readAddr { idle with outKind := .aborted, outSeq := 5#16 } 0x008#12 = 0x00050005#32 := by decide
/-- 20_memory.md R52: LO is at 0x010 and HI at 0x014. -/
theorem test_rd_out_time : readAddr { idle with outTime := 0x0000000100031510#64 } 0x010#12 = 0x00031510#32 ∧
    readAddr { idle with outTime := 0x0000000100031510#64 } 0x014#12 = 1#32 := by decide

/-- H21. -/
theorem test_wrCfgIdle : (next (exec (.wrCfgIdle 5#32) State.reset)).map (·.cfgIdle) = some 5#32 := by decide
/-- H6: dropped in FAULT. -/
theorem test_wrCfgIdle_fault : (next (exec (.wrCfgIdle 5#32) { idle with seq := .fault })).map
    (fun t => (t.cfgIdle, t.cfgErr)) = some (1000000#32, true) := by decide
theorem test_wrCfgWindow : (next (exec (.wrCfgWindow 7#32) State.reset)).map
    (fun t => (t.cfgWindow, t.cfgRefract)) = some (7#32, 200000#32) := by decide
theorem test_wrCfgFloor : (next (exec (.wrCfgFloor 7#32) State.reset)).map (·.cfgFloor) = some 7#32 := by decide
/-- H4. -/
theorem test_wrCfgThresh : (next (exec (.wrCfgThresh 1300#32) State.reset)).map
    (fun t => (t.cfgThresh, t.cfgErr)) = some (1300#32, false) := by decide
/-- H5. -/
theorem test_wrCfgThresh_running : (next (exec (.wrCfgThresh 1300#32) idle)).map
    (fun t => (t.cfgThresh, readAddr t 0x004#12)) = some (1000#32, 0x00000209#32) := by decide
/-- P2's second line. -/
theorem test_wrCfgRefract : (next (exec (.wrCfgRefract 500000#32) State.reset)).map
    (fun t => (t.cfgRefract, t.cfgWindow)) = some (500000#32, 200000#32) := by decide
/-- H7: a write to STATUS does nothing. -/
theorem test_wrIgnored : (next (exec (.wrIgnored 0x004#12 0xFFFFFFFF#32) { State.reset with cmdErr := true })).map
    (fun t => readAddr t 0x004#12) = some 0x00000100#32 := by decide

/-! ## Commands -/

/-- H20. -/
theorem test_nop : (next (exec .nop high)).map (fun t => (t.seq, t.cmdErr)) = some (.captHigh, false) := by decide
/-- H8 (from STOPPED). -/
theorem test_start : (next (exec .start { State.reset with dbValid := true, dbCode := 0x12345678#32, dbTime := 99#64, evtCount := 5#32, outSeq := 7#16 })).map
    (fun t => (t.seq, t.dbValid, t.dbCode, t.evtCount, t.outSeq)) = some (.idleWait, false, 0#32, 0#32, 7#16) := by decide
/-- H9. -/
theorem test_start_unavailable : (next (exec .start { State.reset with inAvail := false })).map
    (fun t => readAddr t 0x004#12) = some 0x00000407#32 := by decide
/-- H12. -/
theorem test_stop_at_top : (next (exec .stop idle)).map (fun t => (t.seq, t.stopPend)) = some (.stopped, false) := by decide
/-- H13. -/
theorem test_stop_in_cycle : (next (exec .stop { idle with t0Valid := true })).map
    (fun t => (t.seq, t.stopPend)) = some (.idleWait, true) := by decide
/-- H15. -/
theorem test_abort : (next (exec .abort { high with outSeq := 4#16, pcount := 3#16, outTime := 77#64, stopPend := true })).map
    (fun t => (t.seq, t.stopPend, t.outKind, t.outSeq, t.outTime, t.pcount)) =
      some (.stopped, false, .aborted, 5#16, 77#64, 3#16) := by decide
/-- H16 (from STOPPED). -/
theorem test_abort_stopped : (next (exec .abort { State.reset with outSeq := 4#16 })).map
    (fun t => (t.outKind, t.outSeq)) = some (.none, 4#16) := by decide
/-- H17. -/
theorem test_clrerr : (next (exec .clrerr { State.reset with seq := .fault, cmdErr := true, cfgErr := true, initFault := true })).map
    (fun t => readAddr t 0x004#12) = some 0x00000407#32 := by decide
/-- H18. -/
theorem test_cmdReserved : (next (exec (.cmdReserved 7#32) State.reset)).map
    (fun t => (t.seq, t.cmdErr)) = some (.stopped, true) := by decide

/-! ## Samples -/

/-- A16: the duration saturates, is recorded, and the window closes in the same event. -/
theorem test_smp_saturates : (next (exec (.smp false 4294967301#64) { high with cfgWindow := 0xFFFFFFFF#32 })).map
    (fun t => (t.pcount, slot t 0, t.outKind)) = some (1#16, 0xFFFFFFFF#32, .insufficient) := by decide
/-- B1: a full frame is accepted and emitted. -/
theorem test_smp_accepts : (next (exec (.smp false 202000#64) (framed 2000#64 frameA))).map
    (fun t => (t.outKind, t.dbTime, t.evtCount, t.evtOut)) =
      some (.accepted, 202000#64, 1#32, some ⟨0xAAAAAAAA#32, 202000#64⟩) := by decide
/-- A17. -/
theorem test_smp_decreasing : faultOf (exec (.smp true 99#64) { gap with lastT := some 100#64 }) = some .decreasingTimestamp := by
  decide

/-! ## The step -/

/-- X1: RESET in mid-capture. -/
theorem test_reset : (next (step { high with pcount := 5#16, outSeq := 9#16, cfgThresh := 5#32, lastT := some 500#64, pending := [⟨true, .reset⟩] })).map
    (fun t => (t.seq, t.pcount, t.outSeq, t.cfgThresh, t.lastT)) = some (.stopped, 0#16, 0#16, 1000#32, some 500#64) := by
  decide
theorem test_withFetchWord_bus : (next (step (State.reset.withFetchWord 48 0x100000000001))).map (·.seq) = some .idleWait := by
  decide
theorem test_withFetchWord_sample : (next (step (State.reset.withFetchWord 72 0x100000000000003E8))).map (·.lastT) =
    some (some 1000#64) := by decide

/-! ## Witnesses: states and operands that meet the hypotheses of each obligation, at the ends of its ranges -/

theorem witness_DecodeEncodeRoundTrip : (Instr.cmdReserved 0xFFFFFFFF#32).wellFormed = true ∧
    (Instr.cmdReserved 5#32).wellFormed = true ∧ (Instr.wrIgnored 0xFFF#12 0#32).wellFormed = true ∧
    (Instr.wrIgnored 0x004#12 0#32).wellFormed = true ∧ (Instr.smp true 0xFFFFFFFFFFFFFFFF#64).wellFormed = true := by decide

theorem witness_DecoderIsFirstTableMatch : decodeBus 0x0FFF00000000#45 = .rd 0xFFF#12 ∧
    decodeBus 0x1FFF00000005#45 = .wrIgnored 0xFFF#12 5#32 ∧ decodeBus 0x1000FFFFFFFF#45 = .cmdReserved 0xFFFFFFFF#32 ∧
    decodeBus 0x105300000005#45 = .wrCfgRefract 5#32 := by decide

theorem witness_ReservedEncodingsRunWithoutTrap :
    ((0x003#12 : Addr).toNat / 4 = 0 ∧ 5 ≤ (5#32 : Word).toNat % 16) ∧
    ((0x000#12 : Addr).toNat / 4 = 0 ∧ (0x10#32 : Word).toNat / 16 ≠ 0) ∧
    (0x004#12 : Addr).toNat / 4 ∉ [0x000, 0x010, 0x011, 0x012, 0x013, 0x014] ∧
    (0xFFF#12 : Addr).toNat / 4 ∉ [0x000, 0x010, 0x011, 0x012, 0x013, 0x014] ∧
    0x00C ≤ (0x030#12 : Addr).toNat / 4 ∧ (0x03F#12 : Addr).toNat / 4 ≤ 0x00F ∧
    0x016 ≤ (0x058#12 : Addr).toNat / 4 ∧ (0x0FF#12 : Addr).toNat / 4 ≤ 0x03F ∧
    0x040 + State.reset.params.slots ≤ (0x184#12 : Addr).toNat / 4 := by decide

theorem witness_OnlySelectedWordMatters : (0x054#12 : Addr).toNat / 4 = (0x057#12 : Addr).toNat / 4 := by decide

theorem witness_StepRunsDecodedInstruction : ∃ (s : State) (av : Bool) (i : Instr) (rest : List Arrival),
    i.wellFormed = true ∧ s.pending = ⟨av, .word (encode i)⟩ :: rest :=
  ⟨{ idle with pending := [⟨false, .word (encode .stop)⟩, ⟨true, .reset⟩] }, false, .stop, [⟨true, .reset⟩], rfl, rfl⟩

theorem witness_ResetWritesEveryElement : ∃ (s : State) (av : Bool) (rest : List Arrival),
    s.pending = ⟨av, .reset⟩ :: rest ∧ s.params.nLeader = 1 ∧ s ≠ State.reset :=
  ⟨{ high with pending := [⟨true, .reset⟩] }, true, [], rfl, rfl, by decide⟩

theorem witness_NoStepWithoutEvent : State.reset.pending = [] ∧
    faultOf (step State.reset) = some .noEvent ∧
    faultOf (step { State.reset with pending := [⟨true, .reset⟩] }) = none := by decide

/-- The ends of the slot range, of a build without a leader and of the largest, and of the reserved ranges. -/
theorem witness_ReadValueByRegister : 0 < State.reset.params.nLeader.val + 32 ∧ 32 < State.reset.params.nLeader.val + 32 ∧
    (0x00C#10 : WordIndex).toNat = 0x00C ∧ (0x00F#10 : WordIndex).toNat = 0x00F ∧ (0x016#10 : WordIndex).toNat = 0x016 ∧
    (0x03F#10 : WordIndex).toNat = 0x03F ∧ 0x040 + (State.reset.params.nLeader.val + 32) ≤ (0x061#10 : WordIndex).toNat ∧
    0x040 + ((⟨32⟩ : Config.Params).nLeader.val + 32) ≤ (0x080#10 : WordIndex).toNat := by decide

theorem witness_ReadsMayBeDropped : ∃ (s : State) (av : Bool) (a : Addr) (d : Word) (rest : List Arrival),
    s.pending = ⟨av, .word (.bus (busWord false a d))⟩ :: rest ∧ rest ≠ [] :=
  ⟨{ idle with pending := [⟨true, .word (.bus (busWord false 0x004#12 9#32))⟩, ⟨true, .word (encode .stop)⟩] }, true,
    0x004#12, 9#32, [⟨true, .word (encode .stop)⟩], rfl, by decide⟩

theorem witness_CfgWriteOnlyInStopped : (0x040#12 : Addr).toNat / 4 = 0x010 ∧ (0x047#12 : Addr).toNat / 4 = 0x011 ∧
    (0x048#12 : Addr).toNat / 4 = 0x012 ∧ (0x04F#12 : Addr).toNat / 4 = 0x013 ∧ (0x053#12 : Addr).toNat / 4 = 0x014 := by
  decide

theorem witness_CfgWriteReadsBack :
    (∃ (s t : State) (a : Addr) (d : Word), 0x010 ≤ a.toNat / 4 ∧ a.toNat / 4 ≤ 0x014 ∧
      exec (decodeBus (busWord true a d)) s = .next t ∧ s.seq = .stopped) ∧
    (∃ (s t : State) (a : Addr) (d : Word), 0x010 ≤ a.toNat / 4 ∧ a.toNat / 4 ≤ 0x014 ∧
      exec (decodeBus (busWord true a d)) s = .next t ∧ s.seq ≠ .stopped) :=
  ⟨⟨State.reset, _, 0x040#12, 5#32, by decide, by decide, rfl, rfl⟩,
    ⟨idle, _, 0x053#12, 5#32, by decide, by decide, rfl, by decide⟩⟩

theorem witness_CfgConstantWhileRunning : ∃ (s t : State) (av : Bool) (e : PortEvent) (rest : List Arrival),
    s.pending = ⟨av, e⟩ :: rest ∧ e ≠ .reset ∧ s.seq ≠ .stopped ∧ step s = .next t :=
  ⟨{ idle with pending := [⟨true, .word (encode (.wrCfgIdle 5#32))⟩] }, _, true, _, [], rfl, by decide, by decide, rfl⟩

/-- The command word's addresses, and the three cases of START, STOP and ABORT. -/
theorem witness_commands : (0x000#12 : Addr).toNat / 4 = 0 ∧ (0x003#12 : Addr).toNat / 4 = 0 ∧
    (State.reset.seq = .stopped ∧ State.reset.inAvail = true) ∧
    ({ State.reset with inAvail := false } : State).inAvail = false ∧ idle.seq ≠ .stopped ∧
    (idle.seq = .idleWait ∧ idle.t0Valid = false) ∧ gap.seq = .captGap ∧ high.seq = .captHigh ∧
    5 ≤ (5#32 : Word).toNat ∧ 5 ≤ (0xFFFFFFFF#32 : Word).toNat := by decide

theorem witness_HostOperationsReadFrame : ∃ s t1 t2 t3 t4 : State, exec .nop s = .next t1 ∧ exec .clrerr s = .next t2 ∧
    exec .abort s = .next t3 ∧ exec .start s = .next t4 ∧ (0x100#12 : Addr).toNat / 4 ∉ [0x001, 0x002] ∧
    (0x100#12 : Addr).toNat / 4 ∉ [0x001, 0x006, 0x008, 0x009, 0x00A, 0x00B] :=
  ⟨gap, _, _, _, _, rfl, rfl, rfl, rfl, by decide, by decide⟩

theorem witness_HostCannotWriteDatapath : ∃ (s t1 t2 t3 : State), exec .stop s = .next t1 ∧ exec .start s = .next t2 ∧
    exec .abort s = .next t3 ∧ (∀ l u, Instr.stop ≠ .smp l u) ∧ (∀ l u, Instr.start ≠ .smp l u) ∧
    (∀ l u, Instr.abort ≠ .smp l u) :=
  ⟨idle, _, _, _, rfl, rfl, rfl, fun _ _ h => (nomatch h), fun _ _ h => (nomatch h), fun _ _ h => (nomatch h)⟩

theorem witness_OneFlagPerHostWrite :
    (∃ (s t : State) (a : Addr) (d : Word), exec (decodeBus (busWord true a d)) s = .next t ∧ a.toNat / 4 = 0 ∧
      s.cfgErr = true ∧ t.cfgErr = true) ∧
    (∃ (s t : State) (a : Addr) (d : Word), exec (decodeBus (busWord true a d)) s = .next t ∧ a.toNat / 4 ≠ 0) :=
  ⟨⟨{ idle with cfgErr := true }, _, 0x000#12, 7#32, rfl, by decide, rfl, rfl⟩,
    ⟨idle, _, 0x040#12, 7#32, rfl, by decide⟩⟩

/-- Equal timestamps are in order; one lower is not. -/
theorem witness_SampleCompletesInOrder :
    (∃ (s : State) (t : Time), s.lastT = some 500#64 ∧ ∀ u, s.lastT = some u → u.toNat ≤ t.toNat) ∧
    (∃ (s : State) (t : Time), ∃ u, s.lastT = some u ∧ t.toNat < u.toNat) ∧
    (∃ t : Time, ∀ u, State.reset.lastT = some u → u.toNat ≤ t.toNat) :=
  ⟨⟨{ gap with lastT := some 500#64 }, 500#64, rfl, fun _ h => (by cases h; decide)⟩,
    ⟨{ gap with lastT := some 500#64 }, 499#64, 500#64, rfl, by decide⟩, ⟨0#64, fun _ h => (by cases h)⟩⟩

theorem witness_SampleIgnoredWithoutLoop : ∃ (s : State) (t : Time), s.seq = .fault ∧
    ∀ u, s.lastT = some u → u.toNat ≤ t.toNat :=
  ⟨{ State.reset with seq := .fault, initFault := true, lastT := some 5#64 }, 5#64, rfl, fun _ h => (by cases h; decide)⟩

/-- The idle timeout, one microsecond before it (A2, A3), and the low sample at it (A4). -/
theorem witness_IdleWaitSampleEffect : ∃ s : State, s.seq = .idleWait ∧
    (∀ u, s.lastT = some u → u.toNat ≤ (1000999#64 : Time).toNat) ∧
    s.cfgIdle.toNat ≤ (1001000#64 : Time).toNat - (if s.t0Valid then s.t0 else 1001000#64).toNat ∧
    ¬ s.cfgIdle.toNat ≤ (1000999#64 : Time).toNat - (if s.t0Valid then s.t0 else 1000999#64).toNat :=
  ⟨{ idle with t0Valid := true, t0 := 1000#64, lastT := some 1000#64 }, rfl, fun _ h => (by cases h; decide), by decide,
    by decide⟩

/-- The end of the window and one microsecond before it (A8, A9). -/
theorem witness_GapSampleEffect : gap.seq = .captGap ∧ (∀ u, gap.lastT = some u → u.toNat ≤ (199999#64 : Time).toNat) ∧
    gap.cfgWindow.toNat ≤ (200000#64 : Time).toNat - gap.ws.toNat ∧
    ¬ gap.cfgWindow.toNat ≤ (199999#64 : Time).toNat - gap.ws.toNat :=
  ⟨rfl, fun _ h => (by cases h), by decide, by decide⟩

theorem witness_HighSampleEffect : high.seq = .captHigh ∧ (∀ u, high.lastT = some u → u.toNat ≤ (199999#64 : Time).toNat) ∧
    high.cfgWindow.toNat ≤ (200000#64 : Time).toNat - high.ws.toNat ∧
    ¬ high.cfgWindow.toNat ≤ (199999#64 : Time).toNat - high.ws.toNat :=
  ⟨rfl, fun _ h => (by cases h), by decide, by decide⟩

/-- At the floor, one above it, the last slot, the first pulse without one, and a saturated duration. -/
theorem witness_RecordPulseEffect : high.pw.length = high.params.nLeader.val + 32 ∧ min 100 0xFFFFFFFF ≤ high.cfgFloor.toNat ∧
    high.cfgFloor.toNat < min 101 0xFFFFFFFF ∧ high.cfgFloor.toNat < min 0x100000000 0xFFFFFFFF ∧
    ({ high with pcount := 32#16 } : State).pcount.toNat < high.params.nLeader.val + 32 ∧
    ¬ ({ high with pcount := 33#16 } : State).pcount.toNat < high.params.nLeader.val + 32 := by decide

theorem slot_cons {s : State} {a : Word} {p : List Word} (h : s.pw = a :: p) (j : Nat) : slot s (j + 1) = p.getD j 0#32 := by
  rw [slot_eq, h, List.getD_cons_succ]

theorem witness_AssembledCodeBits : 0 < 32 ∧ 31 < 32 := by decide

/-- D1, D6, D7: PCOUNT 33 and 40 with other leaders, both sufficient, and 32 and 31, both insufficient. -/
theorem witness_DecoderReadsDataSlotsOnly : ∃ s u : State, s.pcount ≠ u.pcount ∧ slot s 0 ≠ slot u 0 ∧ s.params = u.params ∧
    (s.pcount.toNat < s.params.nLeader.val + 32 ↔ u.pcount.toNat < u.params.nLeader.val + 32) ∧
    (({ s with pcount := 32#16 } : State).pcount.toNat < s.params.nLeader.val + 32 ↔
      ({ u with pcount := 31#16 } : State).pcount.toNat < u.params.nLeader.val + 32) ∧
    s.cfgThresh = u.cfgThresh ∧ s.cfgRefract = u.cfgRefract ∧ s.dbValid = u.dbValid ∧ s.dbCode = u.dbCode ∧
    s.dbTime = u.dbTime ∧ ∀ j, j < 32 → slot s (s.params.nLeader.val + j) = slot u (s.params.nLeader.val + j) :=
  ⟨framed 0#64 frameA, { framed 0#64 (101#32 :: pairs 1200#32 500#32) with pcount := 40#16 }, by decide, by decide, rfl,
    by decide, by decide, rfl, rfl, rfl, rfl, rfl,
    fun j _ => by
      rw [show (framed 0#64 frameA).params.nLeader.val + j = j + 1 from Nat.add_comm 1 j,
        slot_cons (s := framed 0#64 frameA) (a := 5000#32) (p := pairs 1200#32 500#32) rfl j,
        slot_cons (a := 101#32) (p := pairs 1200#32 500#32) rfl j]⟩

/-- E5: a suppressed call 1 µs before the end of the refractory period, an accepted one at it, and another code. -/
theorem witness_LeadingEdgeDebounce : ∃ (s : State) (code : Word) (ts : List Time) (t : Time), s.dbValid = true ∧
    s.dbCode = code ∧ (∀ u ∈ ts, u.toNat - s.dbTime.toNat < s.cfgRefract.toNat) ∧ ts ≠ [] ∧
    s.cfgRefract.toNat ≤ t.toNat - s.dbTime.toNat ∧ (0x55555555#32 : Word) ≠ code :=
  ⟨{ gap with dbValid := true, dbCode := 0xAAAAAAAA#32, dbTime := 202000#64 }, 0xAAAAAAAA#32, [252000#64, 401999#64],
    402000#64, rfl, rfl, by simp [gap, State.reset, Config.cfgRefractReset], by decide, by decide, by decide⟩

theorem witness_SampleFrame : ∃ (s t : State) (l : Bool) (u : Time), exec (.smp l u) s = .next t ∧ s.seq = .idleWait ∧
    l = true ∧ t.outSeq = s.outSeq :=
  ⟨idle, startIdleWait 5#64 { idle with lastT := some 5#64 }, true, 5#64, rfl, rfl, rfl, rfl⟩

/-- A capture in progress: one pulse stored, the last sample low. -/
def midCapture : State :=
  { State.reset with
    seq := .captGap, t0Valid := true, t0 := 500#64, ws := 1000#64, ps := 2000#64, pcount := 1#16
    pw := 101#32 :: List.replicate 32 0#32, lastT := some 2101#64
    pending := [⟨true, .word (encode (.smp false 201000#64))⟩] }

theorem midCapture_coherent : Coherent midCapture where
  slots := rfl
  t0_past := by decide
  ws_past := by decide
  ps_past := by decide
  db_past := by decide
  out_past := by decide
  trace_past := by decide
  trace_ordered := List.Pairwise.nil
  db_absent := fun _ => ⟨rfl, rfl⟩
  stop_running := by decide
  t0_running := by decide
  t0_capturing := by decide
  fault_flag := by decide
  unused_zero := by
    intro i hi
    obtain ⟨j, rfl⟩ : ∃ j, i = j + 1 := ⟨i - 1, by have : (1 : Nat) ≤ i := hi; omega⟩
    exact clearedSlots_getD ⟨0⟩ j
  stored_above_floor := by
    intro _ i hi _
    have h : i = 0 := by have : i < 1 := hi; omega
    subst h; decide
  t0_ws := by decide
  ws_ps := by decide
  db_ws := by decide
  db_t0 := by decide
  out_ws := by decide
  out_t0 := by decide

theorem witness_StepKeepsCoherent : ∃ s t : State, Coherent s ∧ step s = .next t :=
  ⟨midCapture, _, midCapture_coherent, rfl⟩

theorem witness_SampleCompletesInOrder_coherent : Coherent midCapture ∧
    ∀ u, midCapture.lastT = some u → u.toNat ≤ (2101#64 : Time).toNat :=
  ⟨midCapture_coherent, fun _ h => (by cases h; decide)⟩

/-- The window closes at its end, with CFG_REFRACT = CFG_WINDOW. -/
theorem witness_NoSuppressionWithinWindow : ∃ (s t : State) (l : Bool) (u : Time), Coherent s ∧ capturing s = true ∧
    exec (.smp l u) s = .next t ∧ t.outSeq ≠ s.outSeq ∧ s.cfgRefract.toNat ≤ s.cfgWindow.toNat :=
  ⟨midCapture, closeWindow 201000#64 { midCapture with lastT := some 201000#64 }, false, 201000#64, midCapture_coherent,
    rfl, rfl, by decide, by decide⟩

/-- An arrival of each kind: a sample that ends a cycle, START into FAULT, and RESET out of it. -/
theorem witness_whole_machine :
    (∃ (s t : State) (av : Bool) (e : PortEvent) (rest : List Arrival),
      s.pending = ⟨av, e⟩ :: rest ∧ e ≠ .reset ∧ step s = .next t ∧ t.outSeq ≠ s.outSeq) ∧
    (∃ (s t : State) (av : Bool) (e : PortEvent) (rest : List Arrival),
      s.pending = ⟨av, e⟩ :: rest ∧ step s = .next t ∧ s.seq ≠ .fault ∧ t.seq = .fault) ∧
    (∃ (s t : State) (av : Bool) (e : PortEvent) (rest : List Arrival),
      s.pending = ⟨av, e⟩ :: rest ∧ step s = .next t ∧ s.seq = .fault ∧ e = .reset) ∧
    (∃ (s t : State) (av : Bool) (e : PortEvent) (rest : List Arrival),
      s.pending = ⟨av, e⟩ :: rest ∧ step s = .next t ∧ s.seq = .fault ∧ e ≠ .reset) :=
  ⟨⟨{ idle with cfgIdle := 0#32, pending := [⟨true, .word (encode (.smp true 7#64))⟩] }, _, true, _, [], rfl, by decide,
      rfl, by decide⟩,
    ⟨{ State.reset with pending := [⟨false, .word (encode .start)⟩] }, _, false, _, [], rfl, rfl, by decide, by decide⟩,
    ⟨{ State.reset with seq := .fault, initFault := true, pending := [⟨true, .reset⟩] }, _, true, _, [], rfl, rfl, rfl, rfl⟩,
    ⟨{ State.reset with seq := .fault, initFault := true, pending := [⟨true, .word (encode .start)⟩] }, _, true, _, [], rfl,
      rfl, rfl, by decide⟩⟩

/-- One emission: the closing sample of a full frame. -/
theorem witness_OneEmissionPerAcceptance :
    (next (step { framed 2000#64 frameA with pending := [⟨true, .word (encode (.smp false 202000#64))⟩] })).map
      (·.evtOut) = some (some ⟨0xAAAAAAAA#32, 202000#64⟩) := by decide

/-! ### Whole cycles -/

/-- A sample's arrival. -/
def smp (l : Bool) (t : Time) : Arrival := ⟨true, .word (encode (.smp l t))⟩

/-- A host transaction's arrival. -/
def host (i : Instr) : Arrival := ⟨false, .word (encode i)⟩

theorem test_arrival_kinds : (smp true 7#64).sample? = some (true, 7#64) ∧ (host .stop).sample? = none ∧
    (host .stop).stops = true ∧ (smp true 7#64).stops = false ∧ (host .abort).keepsCycle = false ∧
    (⟨true, .reset⟩ : Arrival).keepsCycle = false ∧ (host .start).keepsCycle = true ∧
    (smp false 7#64).keepsCycle = true := by decide

/-- A window as in program P3, with host transactions between its samples: a STOP, a dropped CFG write, a START, a read. -/
def mixed : List Arrival :=
  [host (.wrCfgThresh 1300#32), smp true 2000#64, host .stop, smp false 2101#64, host .start, smp true 3000#64,
    host (.rd 0x004#12), smp false 3100#64, host (.cmdReserved 7#32), smp false 200999#64, host .clrerr]

theorem witness_CaptureStoresPulseSequence : ∃ (s : State) (first last : Arrival) (tc0 tc : Time) (lc : Bool)
    (es : List Arrival), s.seq = .idleWait ∧ first.sample? = some (false, tc0) ∧ last.sample? = some (lc, tc) ∧
    (∀ a ∈ es, a.keepsCycle = true) ∧ (∀ u, s.lastT = some u → u.toNat ≤ tc0.toNat) ∧
    Ordered tc0 (samplesOf es ++ [(lc, tc)]) ∧
    (∀ x ∈ samplesOf es, x.2.toNat - tc0.toNat < s.cfgWindow.toNat) ∧ s.cfgWindow.toNat ≤ tc.toNat - tc0.toNat ∧
    pulseSequence s.cfgFloor tc (samplesOf es) = [101#32] ∧ es.any Arrival.stops = true :=
  ⟨idle, smp false 1000#64, smp true 201000#64, 1000#64, 201000#64, true, mixed, rfl, by decide, by decide, by decide,
    fun _ h => (by cases h), ⟨by decide, by decide, by decide, by decide, by decide, by decide, trivial⟩,
    (by
      rw [show samplesOf mixed = [(true, 2000#64), (false, 2101#64), (true, 3000#64), (false, 3100#64), (false, 200999#64)] by
        decide]
      simp [idle, State.reset, Config.cfgWindowReset]), by decide, by decide, by decide⟩

/-- A build without a leader, and a last code that repeats within the refractory period. -/
def repeated : State :=
  { idle with params := ⟨0⟩, pw := List.replicate 32 0#32, dbValid := true, cfgRefract := 0xFFFFFFFF#32 }

/-- `n` pulses of 500 µs, 1000 µs apart, from `t` on, with a NOP between each two samples. -/
def train : Nat → Time → List Arrival
  | 0, _ => []
  | n + 1, t => smp true t :: host .nop :: smp false (t + 500#64) :: train n (t + 1000#64)

theorem sample_smp (l : Bool) (t : Time) : (smp l t).sample? = some (l, t) := by
  show some (sampleLevel (sampleWord l t), sampleTime (sampleWord l t)) = _
  rw [sampleLevel_sampleWord, sampleTime_sampleWord]

/-- The samples of a train. -/
theorem samplesOf_train (n : Nat) (t : Time) : samplesOf (train (n + 1) t) =
    (true, t) :: (false, t + 500#64) :: samplesOf (train n (t + 1000#64)) := by
  rw [train, samplesOf_cons_sample (sample_smp _ _), samplesOf_cons_host (by decide),
    samplesOf_cons_sample (sample_smp _ _)]

theorem keepsCycle_smp (l : Bool) (t : Time) : (smp l t).keepsCycle = true := by
  show decide (decodeSample (sampleWord l t) ≠ .abort) = true
  rfl

theorem train_keepsCycle : ∀ (n : Nat) (t : Time), ∀ a ∈ train n t, a.keepsCycle = true := by
  intro n
  induction n with
  | zero => intro t a h; cases h
  | succ n ih =>
    intro t a h
    rcases List.mem_cons.1 h with rfl | h
    · exact keepsCycle_smp _ _
    rcases List.mem_cons.1 h with rfl | h
    · decide
    rcases List.mem_cons.1 h with rfl | h
    · exact keepsCycle_smp _ _
    exact ih _ a h

theorem train_ordered : ∀ (n : Nat) (t : Time) (c : Time), t.toNat + 1000 * n + 1000 ≤ c.toNat → ∀ u : Time, u.toNat ≤ t.toNat →
    Ordered u (samplesOf (train n t) ++ [(false, c)]) ∧ ∀ x ∈ samplesOf (train n t), x.2.toNat < c.toNat := by
  intro n
  induction n with
  | zero => intro t c h u hu; exact ⟨⟨by show u.toNat ≤ c.toNat; omega, trivial⟩, fun x hx => (by cases hx)⟩
  | succ n ih =>
    intro t c h u hu
    have hc := c.isLt
    have h1 : (t + 500#64).toNat = t.toNat + 500 := by rw [BitVec.toNat_add, BitVec.toNat_ofNat]; omega
    have h2 : (t + 1000#64).toNat = t.toNat + 1000 := by rw [BitVec.toNat_add, BitVec.toNat_ofNat]; omega
    obtain ⟨g1, g2⟩ := ih (t + 1000#64) c (by omega) (t + 500#64) (by omega)
    rw [samplesOf_train]
    refine ⟨⟨hu, by show t.toNat ≤ (t + 500#64).toNat; omega, g1⟩, fun x hx => ?_⟩
    rcases List.mem_cons.1 hx with rfl | hx
    · show t.toNat < _; omega
    rcases List.mem_cons.1 hx with rfl | hx
    · show (t + 500#64).toNat < _; omega
    exact g2 x hx

theorem witness_CycleDecodesPulseSequence :
    (repeated.seq = .idleWait ∧ (smp false 1000#64).sample? = some (false, 1000#64) ∧
      (smp false 201000#64).sample? = some (false, 201000#64) ∧ (∀ a ∈ train 32 2000#64, a.keepsCycle = true) ∧
      (∀ u, repeated.lastT = some u → u.toNat ≤ (1000#64 : Time).toNat)) ∧
    Ordered 1000#64 (samplesOf (train 32 2000#64) ++ [(false, 201000#64)]) ∧
    (∀ x ∈ samplesOf (train 32 2000#64), x.2.toNat - (1000#64 : Time).toNat < repeated.cfgWindow.toNat) ∧
    repeated.cfgWindow.toNat ≤ (201000#64 : Time).toNat - (1000#64 : Time).toNat ∧
    repeated.params.nLeader.val + 32 ≤ (pulseSequence repeated.cfgFloor 201000#64 (samplesOf (train 32 2000#64))).length ∧
    (pulseSequence repeated.cfgFloor 201000#64 (samplesOf (train 31 2000#64))).length < repeated.params.nLeader.val + 32 ∧
    (repeated.dbValid = true ∧ repeated.dbCode = 0#32 ∧
      (201000#64 : Time).toNat - repeated.dbTime.toNat < repeated.cfgRefract.toNat) :=
  ⟨⟨rfl, by decide, by decide, train_keepsCycle _ _, fun _ h => (by cases h)⟩,
    (train_ordered 32 _ _ (by decide) _ (by decide)).1,
    fun x hx => by
      have h := (train_ordered 32 2000#64 201000#64 (by decide) 1000#64 (by decide)).2 x hx
      have h1 : (201000#64 : Time).toNat = 201000 := rfl
      have h2 : (1000#64 : Time).toNat = 1000 := rfl
      have h3 : repeated.cfgWindow.toNat = 200000 := rfl
      omega,
    by decide, by decide, by decide, rfl, rfl, by decide⟩

/-- Two different states that agree on what a cycle reads, and a run with an outcome, an ABORT and a RESET. -/
theorem witness_CyclesAreIndependent : ∃ (es : List Arrival) (s u s' : State), s ≠ u ∧ SameForCycles s u ∧
    eventRun es s = some s' ∧ es.length = 6 :=
  ⟨[smp false 5#64, host .stop, smp true 200005#64, host .start, host .abort, ⟨true, .reset⟩], idle,
    { idle with ws := 3#64, ps := 4#64, pcount := 9#16, pw := List.replicate 33 8#32, outCode := 7#32, cmdErr := true },
    { State.reset with lastT := some 200005#64 }, by decide,
    ⟨rfl, rfl, rfl, rfl, fun h => (by cases h), fun h => (by cases h), fun h => (by cases h), fun h => (by cases h),
      fun h => (by cases h), rfl, rfl, rfl, rfl, rfl, rfl, rfl, rfl, rfl⟩, rfl, rfl⟩

/-- Samples 2 s apart with host transactions between them, the last one 1 µs beyond the bound. -/
theorem witness_CycleEndsInTime : ∃ (s : State) (g : Nat) (first : Arrival) (l0 : Bool) (t0 : Time) (es : List Arrival),
    s.seq = .idleWait ∧ s.t0Valid = false ∧ first.sample? = some (l0, t0) ∧ (∀ a ∈ es, a.keepsCycle = true) ∧
    (∀ u, s.lastT = some u → u.toNat ≤ t0.toNat) ∧ OrderedWithin g t0 (samplesOf es) ∧
    ∃ x ∈ samplesOf es, t0.toNat + s.cfgIdle.toNat + s.cfgWindow.toNat + 2 * g < x.2.toNat :=
  ⟨idle, 2000000, smp true 0#64, true, 0#64,
    [host .stop, smp true 2000000#64, host (.rd 0x004#12), smp true 4000000#64, smp true 5200001#64], rfl, rfl, by decide,
    by decide, fun _ h => (by cases h),
    (by
      rw [show samplesOf [host .stop, smp true 2000000#64, host (.rd 0x004#12), smp true 4000000#64, smp true 5200001#64] =
        [(true, 2000000#64), (true, 4000000#64), (true, 5200001#64)] by decide]
      exact ⟨by decide, by decide, by decide, by decide, by decide, by decide, trivial⟩),
    (true, 5200001#64), by decide, by decide⟩

/-! ### Infinite runs -/

/-- The last instant of the clock. -/
def lastInstant : Time := 0xFFFFFFFFFFFFFFFF#64

/-- A loop with the reset CFG values whose line is stuck high: a sample at 0, and then samples at the last instant, the
first of which ends the cycle with NO_SIGNAL. The next cycle runs to the end of the clock. -/
def stuckHigh : Nat → State
  | 0 => idle
  | 1 => { idle with t0Valid := true, lastT := some 0#64 }
  | 2 => { idle with outKind := .noSignal, outSeq := 1#16, outTime := lastInstant, lastT := some lastInstant }
  | _ + 3 =>
    { idle with
      t0 := lastInstant, t0Valid := true, outKind := .noSignal, outSeq := 1#16, outTime := lastInstant
      lastT := some lastInstant }

/-- The samples of `stuckHigh`. -/
def highSamples : Nat → Arrival
  | 0 => smp true 0#64
  | _ + 1 => smp true lastInstant

theorem stuckHigh_run : IsRun highSamples stuckHigh := by
  intro n
  match n with
  | 0 => rfl
  | 1 => rfl
  | 2 => rfl
  | _ + 3 => rfl

/-- With the reset CFG values, in a run that never leaves the running states. -/
theorem witness_FairRunEndsEveryCycle : ∃ (ev : Nat → Arrival) (st : Nat → State) (n : Nat), IsRun ev st ∧
    FairSampler ev st ∧ running (st n) = true ∧ (∀ m, n ≤ m → running (st m) = true) ∧ sameCfg State.reset (st n) ∧
    ∀ m, SameCycle st n m → deadline (st m) < 2 ^ 64 := by
  have hr : ∀ m, running (stuckHigh m) = true := fun m => match m with
    | 0 => rfl
    | 1 => rfl
    | 2 => rfl
    | _ + 3 => rfl
  refine ⟨highSamples, stuckHigh, 0, stuckHigh_run, ?_, rfl, fun m _ => hr m, ⟨rfl, rfl, rfl, rfl, rfl⟩, ?_⟩
  · intro n _ bound
    refine ⟨n + 1, Nat.le_succ n, true, lastInstant, sample_smp _ _, ?_⟩
    have := bound.isLt
    show bound.toNat ≤ 18446744073709551615
    omega
  · intro m hm
    match m with
    | 0 => decide
    | 1 => decide
    | k + 2 => exact absurd (hm.2 1 (by omega) (by omega)).2 (by decide)

/-- The side without an acceptance: an INSUFFICIENT outcome is recorded and nothing is emitted. -/
theorem witness_OneEmissionPerAcceptance_insufficient :
    (next (step { framed 2000#64 frameA with pcount := 32#16, pending := [smp false 202000#64] })).map
      (fun t => (t.outKind, t.outSeq, t.evtOut)) = some (.insufficient, 1#16, none) := by decide

/-- A window left open by its sampler, then ABORT. -/
def abandoned : Nat → State
  | 0 => gap
  | 1 => gap
  | _ + 2 => { abortLoop gap with inAvail := false }

theorem witness_OpenCycleNeedsSamples : ∃ (ev : Nat → Arrival) (st : Nat → State) (n m : Nat), IsRun ev st ∧
    running (st n) = true ∧ (st n).t0Valid = true ∧ n < m ∧
    (∀ k, n ≤ k → k < m → (ev k).sample? = none ∧ (ev k).keepsCycle = true) ∧ (ev m).keepsCycle = false := by
  refine ⟨fun k => if k = 1 then host .abort else ⟨k == 0, .word (encode .nop)⟩, abandoned, 0, 1, ?_, rfl, rfl, by decide,
    ?_, by decide⟩
  · intro n
    match n with
    | 0 => rfl
    | 1 => rfl
    | _ + 2 => rfl
  · intro k _ hk
    have h : k = 0 := by omega
    subst h; decide

end Sys2Proof.Tests
end

/-! # What an event can do: inversions of `exec`, of a sample's dispatch and of the step -/

namespace Sys2Proof.Machine

/-- The effects of a host instruction on the state it is executed in (44_host_interface.md R180 to R194). -/
inductive HostEffect (s : State) : State → Prop where
  /-- A read, an ignored write, or an error flag raised or cleared: no other element changes. -/
  | flags (cmdErr cfgErr : Bool) (rdata : Option Word) :
      HostEffect s { s with cmdErr := cmdErr, cfgErr := cfgErr, rdata := rdata }
  /-- A CFG write in STOPPED (R182). -/
  | cfg (r : CfgReg) (d : Word) (hq : s.seq = .stopped) : HostEffect s (setCfg r d s)
  /-- START with the input available (R190). -/
  | start (hq : s.seq = .stopped) : HostEffect s (startLoop s)
  /-- START with the input unavailable (R190). -/
  | startFault (hq : s.seq = .stopped) : HostEffect s { raiseInitFault s with seq := .fault }
  /-- STOP before the cycle's first sample (R191). -/
  | stopNow (hq : s.seq = .idleWait) (hv : s.t0Valid = false) : HostEffect s { s with seq := .stopped }
  /-- STOP in a cycle that has consumed a sample (R191). -/
  | stopLater (hr : running s = true) (hv : ¬(s.seq = .idleWait ∧ s.t0Valid = false)) :
      HostEffect s { s with stopPend := true }
  /-- ABORT of a running loop (R192). -/
  | abort (hr : running s = true) : HostEffect s (abortLoop s)

variable {s s' : State}

theorem hostEffect_refl : HostEffect s s := .flags s.cmdErr s.cfgErr s.rdata

theorem hostEffect_cfgWrite (r : CfgReg) (d : Word) : HostEffect s (cfgWrite r d s) := by
  rcases cfgWrite_cases s r d with ⟨hq, h⟩ | ⟨_, h⟩ <;> rw [h]
  · exact .cfg r d hq
  · exact .flags s.cmdErr true s.rdata

theorem hostEffect_requestStop : HostEffect s (requestStop s) := by
  unfold requestStop
  split
  · rename_i h; exact .stopNow h.1 h.2
  · split
    · exact .stopLater ‹_› ‹_›
    · exact hostEffect_refl

/-- Every instruction but SMP completes with one of the host effects. -/
theorem hostEffect_of_exec {i : Instr} (hs : ∀ l t, i ≠ .smp l t) (h : exec i s = .next s') : HostEffect s s' := by
  cases i with
  | rd a => cases h; exact .flags s.cmdErr s.cfgErr _
  | nop => cases h; exact hostEffect_refl
  | start =>
    cases h
    split
    · split
      · exact .start ‹_›
      · exact .startFault ‹_›
    · exact .flags true s.cfgErr s.rdata
  | stop => cases h; exact hostEffect_requestStop
  | abort =>
    cases h
    split
    · exact .abort ‹_›
    · exact hostEffect_refl
  | clrerr => cases h; exact .flags false false s.rdata
  | cmdReserved d => cases h; exact .flags true s.cfgErr s.rdata
  | wrCfgIdle d => cases h; exact hostEffect_cfgWrite _ d
  | wrCfgWindow d => cases h; exact hostEffect_cfgWrite _ d
  | wrCfgFloor d => cases h; exact hostEffect_cfgWrite _ d
  | wrCfgThresh d => cases h; exact hostEffect_cfgWrite _ d
  | wrCfgRefract d => cases h; exact hostEffect_cfgWrite _ d
  | wrIgnored a d => cases h; exact hostEffect_refl
  | smp l t => exact absurd rfl (hs l t)

/-- The effects of a sample at `t` on the state with LAST_T written (40_cycle_fsm.md R104, R106). -/
inductive SampleEffect (t : Time) (s : State) : State → Prop where
  /-- No loop is running, or the window stays open with its level unchanged. -/
  | kept : SampleEffect t s s
  /-- A low sample confirms the idle level and opens the window (41_acquirer.md R121). -/
  | confirm (hq : s.seq = .idleWait) : SampleEffect t s (confirmIdle t (startIdleWait t s))
  /-- The idle wait times out (41_acquirer.md R122). -/
  | timeout (hq : s.seq = .idleWait) : SampleEffect t s (finish .noSignal t (startIdleWait t s))
  /-- The idle wait goes on (41_acquirer.md R120). -/
  | wait (hq : s.seq = .idleWait) : SampleEffect t s (startIdleWait t s)
  /-- A pulse starts (41_acquirer.md R123). -/
  | pulseStart (hq : s.seq = .captGap) : SampleEffect t s { s with ps := t, seq := .captHigh }
  /-- A pulse ends inside the window (41_acquirer.md R124). -/
  | pulseEnd (hq : s.seq = .captHigh) : SampleEffect t s { recordPulse (since s.ps t) s with seq := .captGap }
  /-- The window closes in a gap (41_acquirer.md R123). -/
  | closeGap (hq : s.seq = .captGap) : SampleEffect t s (closeWindow t s)
  /-- The window closes in a pulse, which it ends (41_acquirer.md R124). -/
  | closeHigh (hq : s.seq = .captHigh) : SampleEffect t s (closeWindow t (recordPulse (since s.ps t) s))

theorem sampleEffect_onSample (l : Bool) (t : Time) : SampleEffect t s (onSample l t s) := by
  rcases onSample_cases s l t with ⟨_, h⟩ | ⟨hq, _, h⟩ | ⟨hq, _, _, h⟩ | ⟨hq, _, _, h⟩ | ⟨hq, _, h⟩ | ⟨hq, _, _, h⟩ |
    ⟨_, _, _, h⟩ | ⟨hq, _, h⟩ | ⟨_, _, _, h⟩ | ⟨hq, _, _, h⟩ <;> rw [h]
  · exact .kept
  · exact .confirm hq
  · exact .timeout hq
  · exact .wait hq
  · exact .closeGap hq
  · exact .pulseStart hq
  · exact .kept
  · exact .closeHigh hq
  · exact .kept
  · exact .pulseEnd hq

/-- A step is RESET, an in-order sample, or a host effect, in the state that has taken the arrival
(40_cycle_fsm.md R101). -/
theorem step_effect_cases (h : step s = .next s') :
    ∃ av rest,
      (s.pending = ⟨av, .reset⟩ :: rest ∧ s' = resetEvent (receive av rest s)) ∨
      ∃ w, s.pending = ⟨av, .word w⟩ :: rest ∧
        ((∃ l t, decodeWire w = .smp l t ∧ lastTime s ≤ t.toNat ∧
            SampleEffect t { receive av rest s with lastT := some t } s') ∨
          HostEffect (receive av rest s) s') := by
  obtain ⟨av, rest, h | ⟨w, hp, h⟩⟩ := step_cases h
  · exact ⟨av, rest, .inl h⟩
  · refine ⟨av, rest, .inr ⟨w, hp, ?_⟩⟩
    by_cases hs : ∃ l t, decodeWire w = .smp l t
    · obtain ⟨l, t, hd⟩ := hs
      rw [hd] at h
      obtain ⟨ho, rfl⟩ := exec_smp_next h
      exact .inl ⟨l, t, hd, ho, sampleEffect_onSample l t⟩
    · exact .inr (hostEffect_of_exec (fun l t e => hs ⟨l, t, e⟩) h)

end Sys2Proof.Machine

/-! # Coherence: one lemma per update of the state, then one case per effect of an event (O37, O38) -/

namespace Sys2Proof.Machine

variable {s s' : State}

/-! ## What coherence says of the flags -/

theorem Coherent.initFault_eq_false (c : Coherent s) (hq : s.seq ≠ .fault) : s.initFault = false := by
  rw [← Bool.not_eq_true, c.fault_flag]; exact hq

theorem Coherent.stopPend_eq_false (c : Coherent s) (h : s.t0Valid = false) : s.stopPend = false := by
  rw [← Bool.not_eq_true]
  intro hp
  exact Bool.false_ne_true (h.symm.trans (c.stop_running hp).2)

theorem Coherent.t0Valid_eq_false (c : Coherent s) (h : running s = false) : s.t0Valid = false := by
  rw [← Bool.not_eq_true]
  intro hv
  exact Bool.false_ne_true (h.symm.trans (c.t0_running hv))

theorem lastTime_of_lastT {u : Time} (h : s.lastT = some u) : lastTime s = u.toNat := by
  simp [lastTime, h]

/-! ## RESET and host instructions -/

/-- RESET is coherent whatever the build and LAST_T, if the trace, which it leaves, is (70_reset_and_hazards.md R240). -/
theorem coherent_resetEvent (hp : ∀ e ∈ s.trace, e.time.toNat ≤ lastTime s)
    (ho : s.trace.Pairwise fun a b => a.time.toNat ≤ b.time.toNat) : Coherent (resetEvent s) where
  slots := clearedSlots_length s.params
  t0_past := Nat.zero_le _
  ws_past := Nat.zero_le _
  ps_past := Nat.zero_le _
  db_past := Nat.zero_le _
  out_past := Nat.zero_le _
  trace_past := hp
  trace_ordered := ho
  db_absent _ := ⟨rfl, rfl⟩
  stop_running := nofun
  t0_running := nofun
  t0_capturing := nofun
  fault_flag := ⟨nofun, nofun⟩
  unused_zero i _ := clearedSlots_getD s.params i
  stored_above_floor := nofun
  t0_ws := nofun
  ws_ps := nofun
  db_ws := nofun
  db_t0 := nofun
  out_ws := nofun
  out_t0 := nofun

/-- Elements that coherence does not speak of may be written freely. -/
theorem Coherent.writeUnconstrained (c : Coherent s) (k : OutKind) (n : BitVec 16) (code : Word) (cmd cfg : Bool)
    (rdata : Option Word) :
    Coherent { s with outKind := k, outSeq := n, outCode := code, cmdErr := cmd, cfgErr := cfg, rdata := rdata } :=
  { c with }

/-- Outside a capture CFG_FLOOR bounds no stored pulse, so the CFG registers may be written (44_host_interface.md R182). -/
theorem Coherent.setCfg (c : Coherent s) (hq : s.seq = .stopped) (r : CfgReg) (d : Word) : Coherent (setCfg r d s) := by
  rw [setCfg_eq]
  exact { c with stored_above_floor := fun h => by simp [capturing, hq] at h }

/-- Where no cycle has consumed a sample, the order of a cycle's instants says nothing: STATE may take any value without a
capture that INIT_FAULT agrees with. -/
theorem Coherent.leaveCycle (c : Coherent s) (q : Sequencer) (f : Bool) (hg : q ≠ .captGap) (hh : q ≠ .captHigh)
    (hf : f = true ↔ q = .fault) :
    Coherent { s with seq := q, stopPend := false, t0Valid := false, initFault := f } := by
  have hc : capturing { s with seq := q, stopPend := false, t0Valid := false, initFault := f } ≠ true := by
    rw [Ne, capturing_iff]; exact fun h => h.elim hg hh
  exact { c with
    stop_running := nofun
    t0_running := nofun
    t0_capturing := fun h => absurd h hc
    fault_flag := hf
    stored_above_floor := fun h => absurd h hc
    t0_ws := fun h => absurd h hc
    ws_ps := fun h => absurd h hh
    db_ws := fun h => absurd h hc
    db_t0 := fun _ h => nomatch h
    out_ws := fun h => absurd h hc
    out_t0 := fun _ h => nomatch h }

/-- The debounce state may be forgotten (44_host_interface.md R190). -/
theorem Coherent.forgetLastCode (c : Coherent s) :
    Coherent { s with dbValid := false, dbCode := 0#32, dbTime := 0#64, evtCount := 0#32 } :=
  { c with
    db_past := Nat.zero_le _
    db_absent := fun _ => ⟨rfl, rfl⟩
    db_ws := fun _ => Nat.zero_le _
    db_t0 := fun _ _ => Nat.zero_le _ }

/-- In a running loop a STOP may be pending once the cycle has consumed a sample (44_host_interface.md R191). -/
theorem Coherent.pendStop (c : Coherent s) (hr : running s = true) (hv : ¬(s.seq = .idleWait ∧ s.t0Valid = false)) :
    Coherent { s with stopPend := true } := by
  have hv : s.t0Valid = true := by
    rcases (running_iff s).1 hr with hq | hq
    · exact Bool.not_eq_false _ ▸ fun h => hv ⟨hq, h⟩
    · exact c.t0_capturing ((capturing_iff s).2 hq)
  exact { c with stop_running := fun _ => ⟨hr, hv⟩ }

/-- Every host instruction keeps coherence. -/
theorem Coherent.hostEffect (c : Coherent s) (h : HostEffect s s') : Coherent s' := by
  cases h with
  | flags cmd cfg rdata => exact c.writeUnconstrained s.outKind s.outSeq s.outCode cmd cfg rdata
  | cfg r d hq => exact c.setCfg hq r d
  | start hq =>
    have hf := c.initFault_eq_false (by simp [hq])
    simpa [startLoop] using c.forgetLastCode.leaveCycle .idleWait s.initFault (by simp) (by simp) (by simp [hf])
  | startFault hq =>
    have hv := c.t0Valid_eq_false (by simp [running, hq])
    have hp := c.stopPend_eq_false hv
    simpa [raiseInitFault, hv, hp] using c.leaveCycle .fault true (by simp) (by simp) (by simp)
  | stopNow hq hv =>
    have hp := c.stopPend_eq_false hv
    have hf := c.initFault_eq_false (by simp [hq])
    simpa [hv, hp] using c.leaveCycle .stopped s.initFault (by simp) (by simp) (by simp [hf])
  | stopLater hr hv => exact c.pendStop hr hv
  | abort hr =>
    have hf := c.initFault_eq_false fun h => by simp [running, h] at hr
    exact (c.leaveCycle .stopped s.initFault (by simp) (by simp) (by simp [hf])).writeUnconstrained .aborted
      (s.outSeq + 1#16) s.outCode s.cmdErr s.cfgErr s.rdata

/-! ## Samples: LAST_T is already the sample's time `t` -/

variable {t : Time}

/-- The first sample of a cycle gives T0, after every earlier instant (10_state.md R24). -/
theorem Coherent.startIdleWait (c : Coherent s) (hl : s.lastT = some t) (hq : s.seq = .idleWait) :
    Coherent (startIdleWait t s) := by
  have ht := lastTime_of_lastT hl
  cases hv : s.t0Valid
  · have hc : capturing s ≠ true := by simp [capturing, hq]
    rw [startIdleWait_eq, hv]
    exact { c with
      t0_past := ht.ge
      stop_running := fun h => ⟨(c.stop_running h).1, rfl⟩
      t0_running := fun _ => (running_iff s).2 (.inl hq)
      t0_capturing := fun _ => rfl
      t0_ws := fun h => absurd h hc
      db_t0 := fun _ _ => ht ▸ c.db_past
      out_t0 := fun _ _ => ht ▸ c.out_past }
  · rw [Machine.startIdleWait, if_pos hv]; exact c

/-- A window opens with an empty store, after every earlier instant (41_acquirer.md R121). -/
theorem Coherent.confirmIdle (c : Coherent s) (hl : s.lastT = some t) (hq : s.seq = .idleWait) (hv : s.t0Valid = true) :
    Coherent (confirmIdle t s) := by
  have ht := lastTime_of_lastT hl
  have hf := c.initFault_eq_false (by simp [hq])
  exact { c with
    slots := clearedSlots_length s.params
    ws_past := ht.ge
    stop_running := fun _ => ⟨rfl, hv⟩
    t0_running := fun _ => rfl
    t0_capturing := fun _ => hv
    fault_flag := by simp [hf]
    unused_zero := fun i _ => clearedSlots_getD s.params i
    stored_above_floor := fun _ i hi => absurd hi (Nat.not_lt_zero i)
    t0_ws := fun _ => ht ▸ c.t0_past
    ws_ps := nofun
    db_ws := fun _ => ht ▸ c.db_past
    db_t0 := nofun
    out_ws := fun _ => ht ▸ c.out_past
    out_t0 := nofun }

/-- Between the two states of an open window only the order of WS and PS is at stake. -/
theorem Coherent.moveInCapture (c : Coherent s) (hc : capturing s = true) (q : Sequencer) (ps : Time)
    (hq : q = .captGap ∨ q = .captHigh) (hp : ps.toNat ≤ lastTime s) (hw : q = .captHigh → s.ws.toNat ≤ ps.toNat) :
    Coherent { s with seq := q, ps := ps } := by
  have hv := c.t0_capturing hc
  have hf := c.initFault_eq_false fun h => by simp [capturing, h] at hc
  have hr : running { s with seq := q, ps := ps } = true := (running_iff _).2 (.inr hq)
  have hi : q ≠ .idleWait := by rcases hq with rfl | rfl <;> simp
  exact { c with
    ps_past := hp
    stop_running := fun _ => ⟨hr, hv⟩
    t0_running := fun _ => hr
    t0_capturing := fun _ => hv
    fault_flag := by rcases hq with rfl | rfl <;> simp [hf]
    stored_above_floor := fun _ => c.stored_above_floor hc
    t0_ws := fun _ => c.t0_ws hc
    ws_ps := hw
    db_ws := fun _ => c.db_ws hc
    db_t0 := fun h => absurd h hi
    out_ws := fun _ => c.out_ws hc
    out_t0 := fun h => absurd h hi }

/-- Between cycles an accepted code may be recorded and emitted at the last sample's time: it is the latest instant of all
(43_debounce.md R161 to R163). -/
theorem Coherent.acceptCode (c : Coherent s) (hl : s.lastT = some t) (hv : s.t0Valid = false) (code : Word) :
    Coherent (emit code t (recordAcceptance code t s)) := by
  have ht := lastTime_of_lastT hl
  have hc : capturing s ≠ true := fun h => Bool.false_ne_true (hv.symm.trans (c.t0_capturing h))
  exact { c with
    db_past := ht.ge
    trace_past := fun e he => (List.mem_append.1 he).elim (c.trace_past e) fun h => by
      rw [List.mem_singleton.1 h]; exact ht.ge
    trace_ordered := List.pairwise_append.2 ⟨c.trace_ordered, List.pairwise_singleton _ _, fun a ha b hb => by
      rw [List.mem_singleton.1 hb]; exact ht ▸ c.trace_past a ha⟩
    db_absent := nofun
    db_ws := fun h => absurd h hc
    db_t0 := fun _ h => absurd (hv.symm.trans h) Bool.false_ne_true }

/-- A cycle may end with its code suppressed (43_debounce.md R162). -/
theorem Coherent.endSuppressed (c : Coherent s) (hl : s.lastT = some t) (hr : running s = true) (code : Word) :
    Coherent (Machine.finish .suppressed t { s with outCode := code }) :=
  (c.writeUnconstrained s.outKind s.outSeq code s.cmdErr s.cfgErr s.rdata).finish .suppressed hl
    ((running_congr rfl).trans hr)

/-- A cycle may end with its code accepted: recording it after the cycle's end is the same (43_debounce.md R162). -/
theorem Coherent.endAccepted (c : Coherent s) (hl : s.lastT = some t) (hr : running s = true) (code : Word) :
    Coherent (Machine.finish .accepted t (emit code t (recordAcceptance code t { s with outCode := code }))) :=
  Coherent.acceptCode
    ((c.finish .accepted hl hr).writeUnconstrained .accepted (s.outSeq + 1#16) code s.cmdErr s.cfgErr s.rdata) hl rfl code

/-- Every outcome of a window keeps coherence (41_acquirer.md R126). -/
theorem Coherent.closeWindow (c : Coherent s) (hl : s.lastT = some t) (hc : capturing s = true) :
    Coherent (closeWindow t s) := by
  have hr : running s = true := (running_iff s).2 (.inr ((capturing_iff s).1 hc))
  rcases closeWindow_cases s t with ⟨_, h⟩ | ⟨_, _, h⟩ | ⟨_, _, h⟩ <;> rw [h]
  · exact c.finish .insufficient hl hr
  · exact c.endSuppressed hl hr (assemble s)
  · exact c.endAccepted hl hr (assemble s)

/-- Every sample keeps coherence. -/
theorem Coherent.sampleEffect (c : Coherent s) (hl : s.lastT = some t) (h : SampleEffect t s s') : Coherent s' := by
  cases h with
  | kept => exact c
  | confirm hq =>
    refine (c.startIdleWait hl hq).confirmIdle ?_ ?_ ?_ <;> rw [startIdleWait_eq]
    · exact hl
    · exact hq
  | timeout hq =>
    refine (c.startIdleWait hl hq).finish .noSignal ?_ ?_ <;> rw [startIdleWait_eq]
    · exact hl
    · exact (running_iff _).2 (.inl hq)
  | wait hq => exact c.startIdleWait hl hq
  | pulseStart hq =>
    have ht := lastTime_of_lastT hl
    exact c.moveInCapture ((capturing_iff s).2 (.inl hq)) .captHigh t (.inr rfl) ht.ge fun _ => ht ▸ c.ws_past
  | pulseEnd hq =>
    have c' := c.recordPulse hq (since s.ps t)
    refine c'.moveInCapture ?_ .captGap _ (.inl rfl) c'.ps_past nofun
    rw [recordPulse_eq]; exact (capturing_iff _).2 (.inr hq)
  | closeGap hq => exact c.closeWindow hl ((capturing_iff s).2 (.inl hq))
  | closeHigh hq =>
    refine (c.recordPulse hq _).closeWindow ?_ ?_ <;> rw [recordPulse_eq]
    · exact hl
    · exact (capturing_iff _).2 (.inr hq)

/-! ## Every event -/

/-- Settles O37: the start of a run is RESET of itself, with an empty trace. -/
theorem resetIsCoherent : Obligations.ResetIsCoherent :=
  coherent_resetEvent (s := State.reset) nofun .nil

/-- Settles O38, by the effects of an event. -/
theorem stepKeepsCoherent : Obligations.StepKeepsCoherent := by
  intro s t c h
  obtain ⟨av, rest, ⟨_, rfl⟩ | ⟨w, _, ⟨l, u, _, ho, he⟩ | he⟩⟩ := step_effect_cases h
  · exact coherent_resetEvent (c.receive av rest).trace_past (c.receive av rest).trace_ordered
  · exact ((c.receive av rest).advance ho).sampleEffect rfl he
  · exact (c.receive av rest).hostEffect he

end Sys2Proof.Machine

/-! # LAST_T and the build (O43) -/

namespace Sys2Proof.Machine

variable {s s' : State}

/-- No host instruction writes LAST_T or the build (10_state.md R45). -/
theorem HostEffect.lastT_params (h : HostEffect s s') : s'.lastT = s.lastT ∧ s'.params = s.params := by
  cases h with
  | cfg r d => rw [setCfg_eq]; exact ⟨rfl, rfl⟩
  | _ => exact ⟨rfl, rfl⟩

/-- Nor does the sample's dispatch: SMP itself writes LAST_T, before it (40_cycle_fsm.md R106). -/
theorem SampleEffect.lastT_params {t : Time} (h : SampleEffect t s s') : s'.lastT = s.lastT ∧ s'.params = s.params := by
  have close : ∀ r : State, (closeWindow t r).lastT = r.lastT ∧ (closeWindow t r).params = r.params := fun r => by
    obtain ⟨hp, -, -, -, -, -, hl, -⟩ := closeWindow_frame r t
    exact ⟨hl, hp⟩
  cases h with
  | kept | pulseStart => exact ⟨rfl, rfl⟩
  | confirm | timeout | wait => rw [startIdleWait_eq]; exact ⟨rfl, rfl⟩
  | pulseEnd => rw [recordPulse_eq]; exact ⟨rfl, rfl⟩
  | closeGap => exact close s
  | closeHigh => rw [(close _).1, (close _).2, recordPulse_eq]; exact ⟨rfl, rfl⟩

/-- `lastTime` reads LAST_T only. -/
theorem lastTime_congr (h : s'.lastT = s.lastT) : lastTime s' = lastTime s := by
  unfold lastTime; rw [h]

/-- Settles O43: only a sample, which is in order, writes LAST_T. -/
theorem timeNeverDecreases : Obligations.TimeNeverDecreases := by
  intro s t h
  obtain ⟨av, rest, ⟨_, rfl⟩ | ⟨w, hp, ⟨l, u, hd, ho, he⟩ | he⟩⟩ := step_effect_cases h
  · exact ⟨Nat.le_refl _, rfl, .inl rfl⟩
  · obtain ⟨hl, hb⟩ := he.lastT_params
    exact ⟨lastTime_of_lastT hl ▸ ho, hb, .inr ⟨av, w, rest, l, u, hp, hd, hl⟩⟩
  · obtain ⟨hl, hb⟩ := he.lastT_params
    exact ⟨(lastTime_congr hl).ge, hb, .inl hl⟩

end Sys2Proof.Machine

/-! # The result registers (O41) -/

namespace Sys2Proof.Machine

variable {s s' : State}

/-- The four result registers are as they were (10_state.md R30 to R33). -/
def sameResults (s s' : State) : Prop :=
  s'.outSeq = s.outSeq ∧ s'.outKind = s.outKind ∧ s'.outCode = s.outCode ∧ s'.outTime = s.outTime

/-- A sample at `t` recorded one outcome, with a code only if one was decoded (40_cycle_fsm.md R107). -/
def recordsOutcome (t : Time) (s s' : State) : Prop :=
  s'.outSeq = s.outSeq + 1#16 ∧ s'.outTime = t ∧ s'.outKind ≠ .none ∧ s'.outKind ≠ .aborted ∧
    (s'.outKind ≠ .accepted → s'.outKind ≠ .suppressed → s'.outCode = s.outCode)

/-- ABORT is the only host instruction that writes a result register (44_host_interface.md R192, R195). -/
theorem HostEffect.results (h : HostEffect s s') : sameResults s s' ∨ s' = abortLoop s := by
  cases h with
  | abort => exact .inr rfl
  | cfg r d => rw [setCfg_eq]; exact .inl ⟨rfl, rfl, rfl, rfl⟩
  | _ => exact .inl ⟨rfl, rfl, rfl, rfl⟩

/-- A window that closes records INSUFFICIENT, SUPPRESSED or ACCEPTED (41_acquirer.md R126, 42_decoder.md R143). -/
theorem closeWindow_recordsOutcome (s : State) (t : Time) : recordsOutcome t s (closeWindow t s) := by
  rcases closeWindow_cases s t with ⟨_, h⟩ | ⟨_, _, h⟩ | ⟨_, _, h⟩ <;> rw [h]
  · exact ⟨rfl, rfl, nofun, nofun, fun _ _ => rfl⟩
  · exact ⟨rfl, rfl, nofun, nofun, fun _ hk => absurd rfl hk⟩
  · exact ⟨rfl, rfl, nofun, nofun, fun hk _ => absurd rfl hk⟩

/-- A sample either leaves the result registers or records one outcome. -/
theorem SampleEffect.results {t : Time} (h : SampleEffect t s s') : sameResults s s' ∨ recordsOutcome t s s' := by
  cases h with
  | kept | pulseStart => exact .inl ⟨rfl, rfl, rfl, rfl⟩
  | confirm | wait => rw [startIdleWait_eq]; exact .inl ⟨rfl, rfl, rfl, rfl⟩
  | timeout => rw [startIdleWait_eq]; exact .inr ⟨rfl, rfl, nofun, nofun, fun _ _ => rfl⟩
  | pulseEnd => rw [recordPulse_eq]; exact .inl ⟨rfl, rfl, rfl, rfl⟩
  | closeGap => exact .inr (closeWindow_recordsOutcome s t)
  | closeHigh =>
    have hn : (recordPulse (since s.ps t) s).outSeq = s.outSeq := by rw [recordPulse_eq]
    have hc : (recordPulse (since s.ps t) s).outCode = s.outCode := by rw [recordPulse_eq]
    have h := closeWindow_recordsOutcome (recordPulse (since s.ps t) s) t
    rw [recordsOutcome, hn, hc] at h
    exact .inr h

/-- Settles O41, by the effects of an event. -/
theorem resultsChangeWithSequence : Obligations.ResultsChangeWithSequence := by
  intro s t av e rest hp hne h
  obtain ⟨av', rest', ⟨hp', _⟩ | ⟨w, _, ⟨l, u, _, _, he⟩ | he⟩⟩ := step_effect_cases h
  · rw [hp] at hp'; cases hp'; exact absurd rfl hne
  · refine he.results.imp id fun ⟨hseq, ht, hn, ha, hc⟩ => ⟨hseq, hn, hc, fun h => absurd h ha, fun _ => ?_⟩
    rw [he.lastT_params.1, ht]
  · refine he.results.imp id ?_
    rintro rfl
    exact ⟨rfl, nofun, fun _ _ => rfl, fun _ => rfl, fun h => absurd rfl h⟩

end Sys2Proof.Machine

/-! # The STATUS register (O13) and the reset values (O9) -/

namespace Sys2Proof.Machine

variable (s : State)

theorem bitAt_getLsbD (i : Nat) {j : Nat} (b : Bool) (hj : j < 32) : (bitAt i b).getLsbD j = (decide (j = i) && b) := by
  unfold bitAt
  rw [BitVec.getLsbD_shiftLeft, BitVec.getLsbD_setWidth, BitVec.getLsbD_ofBool, Bool.eq_iff_iff]
  simp only [Bool.and_eq_true, Bool.not_eq_true', decide_eq_true_eq, decide_eq_false_iff_not]
  grind

/-- The code of STATE stands in bits 2 to 0 (10_state.md R22). -/
theorem seqCode_getLsbD_of_ge (q : Sequencer) {j : Nat} (hj : 3 ≤ j) : (seqCode q).getLsbD j = false := by
  have h : (seqCode q).toNat < 2 ^ 3 := by cases q <;> decide
  exact Nat.testBit_lt_two_pow (h.trans_le (Nat.pow_le_pow_right (by decide) hj))

/-- A field at bit 3 or above leaves bits 2 to 0. -/
theorem bitAt_toNat_mod_eight {i : Nat} (hi : 3 ≤ i) (b : Bool) : (bitAt i b).toNat % 2 ^ 3 = 0 := by
  unfold bitAt
  rw [BitVec.toNat_shiftLeft, Nat.shiftLeft_eq, Nat.mod_mod_of_dvd _ (Nat.pow_dvd_pow 2 (by decide))]
  exact Nat.mod_eq_zero_of_dvd (Dvd.dvd.mul_left (Nat.pow_dvd_pow 2 hi) _)

/-- Bits 2 to 0 of STATUS are the code of STATE (10_state.md R42). -/
theorem statusWord_toNat_mod_eight : (statusWord s).toNat % 2 ^ 3 = (seqCode s.seq).toNat := by
  have h : (seqCode s.seq).toNat % 2 ^ 3 = (seqCode s.seq).toNat := by cases s.seq <;> rfl
  simp [statusWord, Nat.or_mod_two_pow, bitAt_toNat_mod_eight, -Nat.reducePow, h]

/-- STATUS above its STATE field (10_state.md R42). -/
theorem statusWord_getLsbD {j : Nat} (h3 : 3 ≤ j) (hj : j < 32) :
    (statusWord s).getLsbD j =
      ((decide (j = 3) && running s) || (decide (j = 4) && s.stopPend) || (decide (j = 8) && s.cmdErr) ||
        (decide (j = 9) && s.cfgErr) || (decide (j = 10) && s.initFault)) := by
  simp only [statusWord, BitVec.getLsbD_or, seqCode_getLsbD_of_ge _ h3, bitAt_getLsbD _ _ hj, Bool.false_or]

/-- Every bit of STATUS above its STATE field and outside its five flags is 0 (10_state.md R42). -/
theorem statusWord_getLsbD_eq_false {j : Nat} (h3 : 3 ≤ j) (h : j ∉ [3, 4, 8, 9, 10]) :
    (statusWord s).getLsbD j = false := by
  rcases Nat.lt_or_ge j 32 with hj | hj
  · simp only [List.mem_cons, List.not_mem_nil, or_false, not_or] at h
    simp [statusWord_getLsbD s h3 hj, h, -BitVec.getLsbD_eq_getElem]
  · exact BitVec.getLsbD_of_ge _ _ hj

theorem readAddr_status : readAddr s 0x004#12 = statusWord s := by
  have h : wordIndex 0x004#12 = 0x001#10 := by decide
  rw [readAddr, h, readValue, if_pos rfl]

/-- Settles O13: the word that address 4 reads is STATUS, its STATE field and its bits as computed above. -/
theorem statusFields : Obligations.StatusFields := by
  intro s
  rw [readAddr_status]
  refine ⟨?_, ?_, ?_, ?_, ?_, ?_, ?_, ?_, by decide⟩
  · refine (statusWord_toNat_mod_eight s).trans ?_
    cases s.seq <;> rfl
  · rw [← running_iff, statusWord_getLsbD s (by decide) (by decide)]; simp
  · rw [statusWord_getLsbD s (by decide) (by decide)]; simp
  · intro i h5 h7
    exact statusWord_getLsbD_eq_false s (by omega) (by simp; omega)
  · rw [statusWord_getLsbD s (by decide) (by decide)]; simp
  · rw [statusWord_getLsbD s (by decide) (by decide)]; simp
  · rw [statusWord_getLsbD s (by decide) (by decide)]; simp
  · intro i hi
    exact statusWord_getLsbD_eq_false s (by omega) (by simp; omega)

/-- Settles O9: each value is the one `State.reset` writes out. -/
theorem resetStateValues : Obligations.ResetStateValues :=
  ⟨rfl, rfl, rfl, rfl, rfl, rfl, rfl, rfl, rfl, rfl, rfl, rfl, rfl, rfl, rfl, rfl, rfl, rfl, rfl, rfl, rfl, rfl, rfl, rfl, rfl⟩

end Sys2Proof.Machine

/-! # What the registers read after an event (O6, O14, O16, O23) -/

namespace Sys2Proof.Machine

variable (s : State)

/-! ## The frame of the register space: what each group of elements can be read from (20_memory.md R52) -/

/-- The ports and the list of arrivals are no registers (10_state.md R41). -/
theorem readAddr_ports (a : Addr) (av : Bool) (rest : List Arrival) (rd : Option Word) (ev : Option Emission) :
    readAddr { s with inAvail := av, pending := rest, rdata := rd, evtOut := ev } a = readAddr s a := by
  apply readValue_congr (wordIndex a)
  all_goals intros; rfl

/-- STATE, STOP_PEND and the error flags are read from STATUS only, T0_VALID from no register (10_state.md R42). -/
theorem readAddr_status_frame {a : Addr} (ha : a.toNat / 4 ≠ 0x001) (q : Sequencer) (p v cmd cfg ini : Bool) :
    readAddr { s with seq := q, stopPend := p, t0Valid := v, cmdErr := cmd, cfgErr := cfg, initFault := ini } a =
      readAddr s a := by
  apply readValue_congr (wordIndex a) (status := fun h => absurd ((wordIndex_eq_iff_toNat a _).1 h) ha)
  all_goals intros; rfl

/-- OUT_KIND and OUT_SEQ are read from RESULT only (10_state.md R43). -/
theorem readAddr_result_frame {a : Addr} (ha : a.toNat / 4 ≠ 0x002) (k : OutKind) (n : BitVec 16) :
    readAddr { s with outKind := k, outSeq := n } a = readAddr s a := by
  apply readValue_congr (wordIndex a) (result := fun h => absurd ((wordIndex_eq_iff_toNat a _).1 h) ha)
  all_goals intros; rfl

/-- EVT_COUNT and the debounce state are read from their own words only (10_state.md R29, R34). -/
theorem readAddr_debounce_frame {a : Addr} (ha : a.toNat / 4 ∉ [0x006, 0x008, 0x009, 0x00A, 0x00B]) (n : Word) (v : Bool)
    (c : Word) (t : Time) :
    readAddr { s with evtCount := n, dbValid := v, dbCode := c, dbTime := t } a = readAddr s a := by
  have other {m : WordIndex} {p : Prop} (hm : m.toNat ∈ [0x006, 0x008, 0x009, 0x00A, 0x00B]) (h : wordIndex a = m) : p :=
    absurd ((wordIndex_eq_iff_toNat a m).1 h ▸ hm) ha
  apply readValue_congr (wordIndex a) (evtCount := other (by decide)) (dbValid := other (by decide))
    (dbCode := other (by decide)) (dbTimeLo := other (by decide)) (dbTimeHi := other (by decide))
  all_goals intros; rfl

/-! ## The selected word -/

/-- A read looks at `A[11:2]` only (20_memory.md R51). -/
theorem readAddr_congr {a a' : Addr} (h : wordIndex a = wordIndex a') : readAddr s a = readAddr s a' := by
  rw [readAddr, h, readAddr]

/-- So does a write: an ignored one has no effect whatever its address (20_memory.md R51, 44_host_interface.md R188). -/
theorem exec_decodeWrite_congr {a a' : Addr} (h : wordIndex a = wordIndex a') (d : Word) :
    exec (decodeWrite a d) s = exec (decodeWrite a' d) s := by
  have ignored : exec (.wrIgnored a d) s = exec (.wrIgnored a' d) s := rfl
  simp only [decodeWrite, h, apply_ite (exec · s), ignored]

/-- Settles O6: both directions look at the selected word only. -/
theorem onlySelectedWordMatters : Obligations.OnlySelectedWordMatters := by
  intro s b a a' d h
  have hw : wordIndex a = wordIndex a' := (wordIndex_eq_iff a a').2 h
  rw [decodeBus_busWord, decodeBus_busWord]
  cases b with
  | true => exact exec_decodeWrite_congr s hw d
  | false =>
    change Host.Outcome.next { s with rdata := some (readAddr s a) } = .next { s with rdata := some (readAddr s a') }
    rw [readAddr_congr s hw]

/-! ## Reads -/

/-- The step of a read only takes the arrival and puts the register's value on the bus (44_host_interface.md R180). -/
theorem step_read {av : Bool} {a : Addr} {d : Word} {rest : List Arrival}
    (hp : s.pending = ⟨av, .word (.bus (busWord false a d))⟩ :: rest) :
    step s = .next { receive av rest s with rdata := some (readAddr (receive av rest s) a) } := by
  rw [step, hp]
  simp only [decodeWire, decodeBus_busWord]
  rfl

/-- A step looks at no port: its own arrival brings them anew (log entries 1 and 7). -/
theorem step_ports (av : Bool) (rd : Option Word) (ev : Option Emission) :
    step { s with inAvail := av, rdata := rd, evtOut := ev } = step s := rfl

/-- Settles O14: a read changes the ports and the list of arrivals only. -/
theorem readsMayBeDropped : Obligations.ReadsMayBeDropped := by
  intro s av a d rest hp
  exact ⟨_, step_read s hp, fun a' => readAddr_ports s a' av rest _ none,
    step_ports { s with pending := rest } av _ none⟩

/-! ## Configuration writes -/

/-- The word of a CFG register (20_memory.md R52). -/
def CfgReg.word : CfgReg → WordIndex
  | .idle => 0x010#10
  | .window => 0x011#10
  | .floor => 0x012#10
  | .thresh => 0x013#10
  | .refract => 0x014#10

/-- The words 0x010 to 0x014 are those of the CFG registers. -/
theorem exists_cfgReg_word {w : WordIndex} (h1 : 0x010 ≤ w.toNat) (h2 : w.toNat ≤ 0x014) : ∃ r : CfgReg, w = r.word := by
  have h : w.toNat = 0x010 ∨ w.toNat = 0x011 ∨ w.toNat = 0x012 ∨ w.toNat = 0x013 ∨ w.toNat = 0x014 := by omega
  rcases h with h | h | h | h | h
  · exact ⟨.idle, BitVec.eq_of_toNat_eq h⟩
  · exact ⟨.window, BitVec.eq_of_toNat_eq h⟩
  · exact ⟨.floor, BitVec.eq_of_toNat_eq h⟩
  · exact ⟨.thresh, BitVec.eq_of_toNat_eq h⟩
  · exact ⟨.refract, BitVec.eq_of_toNat_eq h⟩

/-- A write to the word of a CFG register is its CFG write (44_host_interface.md R183 to R187). -/
theorem exec_decodeWrite_cfg {r : CfgReg} {a : Addr} (ha : wordIndex a = r.word) (d : Word) :
    exec (decodeWrite a d) s = .next (cfgWrite r d s) := by
  rw [decodeWrite, ha]
  cases r <;> rfl

/-- A stored CFG register reads back (20_memory.md R52). -/
theorem readValue_setCfg_same (r : CfgReg) (d : Word) : readValue (setCfg r d s) r.word = d := by
  cases r <;> rfl

/-- Storing a CFG register leaves what every other word reads. -/
theorem readValue_setCfg_other {r : CfgReg} {w : WordIndex} (hw : w ≠ r.word) (d : Word) :
    readValue (setCfg r d s) w = readValue s w := by
  have kept {q : CfgReg} {x : Word} (h : w = q.word) : (if r = q then d else x) = x :=
    if_neg fun e => hw (h.trans (congrArg CfgReg.word e.symm))
  rw [setCfg_eq]
  apply readValue_congr w
  case cfgIdle => exact kept (q := .idle)
  case cfgWindow => exact kept (q := .window)
  case cfgFloor => exact kept (q := .floor)
  case cfgThresh => exact kept (q := .thresh)
  case cfgRefract => exact kept (q := .refract)
  all_goals intros; rfl

/-- A 1-bit field is 0 off its bit. -/
theorem bitAt_getLsbD_of_ne {i j : Nat} (b : Bool) (h : j ≠ i) : (bitAt i b).getLsbD j = false := by
  rcases Nat.lt_or_ge j 32 with hj | hj
  · rw [bitAt_getLsbD i b hj, decide_eq_false h, Bool.false_and]
  · exact BitVec.getLsbD_of_ge _ _ hj

/-- CFG_ERR stands in bit 9 of STATUS and in no other (10_state.md R42). -/
theorem statusWord_raiseCfgErr_getLsbD {j : Nat} (h : j ≠ 9) :
    (statusWord (raiseCfgErr s)).getLsbD j = (statusWord s).getLsbD j := by
  simp only [statusWord, BitVec.getLsbD_or, bitAt_getLsbD_of_ne _ h]
  rfl

theorem statusWord_getLsbD_nine : (statusWord s).getLsbD 9 = s.cfgErr := by
  rw [statusWord_getLsbD s (by decide) (by decide)]; simp

/-- Settles O16: a CFG write stores its own register, or raises CFG_ERR. -/
theorem cfgWriteReadsBack : Obligations.CfgWriteReadsBack := by
  intro s t a d h1 h2 h
  rw [← wordIndex_toNat] at h1 h2
  obtain ⟨r, hr⟩ := exists_cfgReg_word h1 h2
  rw [decodeBus_busWord, if_pos rfl, exec_decodeWrite_cfg s hr] at h
  cases h
  rcases cfgWrite_cases s r d with ⟨hq, h⟩ | ⟨hq, h⟩ <;> rw [h]
  · refine ⟨fun _ => ⟨?_, fun a' ha => readValue_setCfg_other s (fun e => ha ?_) d⟩, fun hn => absurd hq hn⟩
    · rw [readAddr, hr, readValue_setCfg_same]
    · exact (wordIndex_eq_iff a' a).1 (e.trans hr.symm)
  · rw [readAddr_status, readAddr_status]
    exact ⟨fun hs => absurd hs hq, fun _ => ⟨fun a' ha => readAddr_status_frame s ha _ _ _ _ _ _,
      statusWord_getLsbD_nine (raiseCfgErr s), fun i hi => statusWord_raiseCfgErr_getLsbD s hi⟩⟩

/-! ## The frame of each host operation -/

/-- STOP writes STATE and STOP_PEND at most (44_host_interface.md R191). -/
theorem readAddr_requestStop {a : Addr} (ha : a.toNat / 4 ≠ 0x001) : readAddr (requestStop s) a = readAddr s a := by
  unfold requestStop
  split
  · exact readAddr_status_frame s ha _ _ _ _ _ _
  · split
    · exact readAddr_status_frame s ha _ _ _ _ _ _
    · rfl

/-- ABORT writes what STATUS and RESULT show (44_host_interface.md R192). -/
theorem readAddr_abortLoop {a : Addr} (h1 : a.toNat / 4 ≠ 0x001) (h2 : a.toNat / 4 ≠ 0x002) :
    readAddr (abortLoop s) a = readAddr s a :=
  (readAddr_status_frame { s with outKind := .aborted, outSeq := s.outSeq + 1#16 } h1 _ _ _ _ _ _).trans
    (readAddr_result_frame s h2 _ _)

/-- START writes what STATUS, EVT_COUNT and the debounce registers show (44_host_interface.md R190). -/
theorem readAddr_startLoop {a : Addr} (h1 : a.toNat / 4 ≠ 0x001)
    (h2 : a.toNat / 4 ∉ [0x006, 0x008, 0x009, 0x00A, 0x00B]) : readAddr (startLoop s) a = readAddr s a :=
  (readAddr_status_frame { s with evtCount := 0#32, dbValid := false, dbCode := 0#32, dbTime := 0#64 } h1 _ _ _ _ _ _).trans
    (readAddr_debounce_frame s h2 _ _ _ _)

/-- Settles O23, operation by operation. -/
theorem hostOperationsReadFrame : Obligations.HostOperationsReadFrame := by
  intro s t a'
  refine ⟨?_, ?_, ?_, ?_⟩
  · rintro (⟨a, h⟩ | h | ⟨a, d, h⟩) <;> cases h
    · exact readAddr_ports s a' _ _ _ _
    · rfl
    · rfl
  · rintro (h | h | ⟨d, h⟩) ha <;> cases h
    · exact readAddr_requestStop s ha
    · exact readAddr_status_frame s ha _ _ _ _ _ _
    · exact readAddr_status_frame s ha _ _ _ _ _ _
  · intro h ha
    obtain ⟨h1, h2⟩ : a'.toNat / 4 ≠ 0x001 ∧ a'.toNat / 4 ≠ 0x002 := by simpa using ha
    cases h
    split
    · exact readAddr_abortLoop s h1 h2
    · rfl
  · intro h ha
    obtain ⟨h1, h2⟩ := not_or.1 (List.mem_cons.not.1 ha)
    cases h
    split
    · split
      · exact readAddr_startLoop s h1 h2
      · exact readAddr_status_frame s h1 _ _ _ _ _ _
    · exact readAddr_status_frame s h1 _ _ _ _ _ _

end Sys2Proof.Machine

/-! # The CFG registers of a running loop (O17) -/

namespace Sys2Proof.Machine

variable {s s' : State}

/-- Only a CFG write in STOPPED changes a CFG register (44_host_interface.md R182). -/
theorem HostEffect.keepsCfg (h : HostEffect s s') (hq : s.seq ≠ .stopped) : sameCfg s s' := by
  cases h with
  | cfg r d hs => exact absurd hs hq
  | _ => exact ⟨rfl, rfl, rfl, rfl, rfl⟩

/-- Closing a window writes no CFG register, whatever it recorded last. -/
theorem closeWindow_keepsCfg (pw : List Word) (n : BitVec 16) (t : Time) :
    sameCfg s (closeWindow t { s with pw := pw, pcount := n }) := by
  rcases closeWindow_cases { s with pw := pw, pcount := n } t with ⟨_, h⟩ | ⟨_, _, h⟩ | ⟨_, _, h⟩ <;> rw [h] <;>
    exact ⟨rfl, rfl, rfl, rfl, rfl⟩

/-- No sample writes a CFG register (20_memory.md R61). -/
theorem SampleEffect.keepsCfg {t : Time} (h : SampleEffect t s s') : sameCfg s s' := by
  cases h with
  | kept | pulseStart => exact ⟨rfl, rfl, rfl, rfl, rfl⟩
  | confirm | timeout | wait => rw [startIdleWait_eq]; exact ⟨rfl, rfl, rfl, rfl, rfl⟩
  | pulseEnd => rw [recordPulse_eq]; exact ⟨rfl, rfl, rfl, rfl, rfl⟩
  | closeGap => exact closeWindow_keepsCfg s.pw s.pcount t
  | closeHigh => rw [recordPulse_eq]; exact closeWindow_keepsCfg _ _ t

/-- Settles O17, by the effects of an event. -/
theorem cfgConstantWhileRunning : Obligations.CfgConstantWhileRunning := by
  intro s t av e rest hp hne hq h
  obtain ⟨av', rest', ⟨hp', _⟩ | ⟨w, _, ⟨l, u, _, _, he⟩ | he⟩⟩ := step_effect_cases h
  · rw [hp] at hp'; cases hp'; exact absurd rfl hne
  · exact he.keepsCfg
  · exact he.keepsCfg hq

end Sys2Proof.Machine

/-! # Emitted events (O42) -/

namespace Sys2Proof.Machine

variable {s s' : State}

/-- No ACCEPTED outcome was recorded, and the event port and the trace are as they were. -/
def emitsNothing (s s' : State) : Prop :=
  (s'.outSeq = s.outSeq ∨ s'.outKind ≠ .accepted) ∧ s'.evtOut = s.evtOut ∧ s'.trace = s.trace

/-- An ACCEPTED outcome at `t` was recorded, with its one event and the debounce state of its code
(43_debounce.md R162, R163). -/
def acceptsAt (t : Time) (s s' : State) : Prop :=
  s'.evtOut = some ⟨s'.outCode, s'.outTime⟩ ∧ s'.trace = s.trace ++ [⟨s'.outCode, s'.outTime⟩] ∧
    s'.evtCount = s.evtCount + 1#32 ∧ s'.outKind = .accepted ∧ s'.outSeq = s.outSeq + 1#16 ∧
    s'.dbValid = true ∧ s'.dbCode = s'.outCode ∧ s'.dbTime = s'.outTime ∧ s'.outTime = t

/-! ## Host instructions -/

theorem sameDatapath_cfgWrite (r : CfgReg) (d : Word) : sameDatapath s (cfgWrite r d s) := by
  rcases cfgWrite_cases s r d with ⟨_, h⟩ | ⟨_, h⟩ <;> rw [h]
  · rw [setCfg_eq]; exact ⟨rfl, rfl, rfl, rfl, rfl, rfl, rfl, rfl, rfl, rfl, rfl, rfl⟩
  · exact ⟨rfl, rfl, rfl, rfl, rfl, rfl, rfl, rfl, rfl, rfl, rfl, rfl⟩

theorem sameDatapath_requestStop : sameDatapath s (requestStop s) := by
  unfold requestStop
  split
  · exact ⟨rfl, rfl, rfl, rfl, rfl, rfl, rfl, rfl, rfl, rfl, rfl, rfl⟩
  · split <;> exact ⟨rfl, rfl, rfl, rfl, rfl, rfl, rfl, rfl, rfl, rfl, rfl, rfl⟩

/-- Of the host instructions only START and ABORT write the datapath (44_host_interface.md R195). -/
theorem exec_sameDatapath {i : Instr} (hs : ∀ l t, i ≠ .smp l t) (hst : i ≠ .start) (ha : i ≠ .abort)
    (h : exec i s = .next s') : sameDatapath s s' := by
  cases i with
  | smp l t => exact absurd rfl (hs l t)
  | start => exact absurd rfl hst
  | abort => exact absurd rfl ha
  | stop => cases h; exact sameDatapath_requestStop
  | wrCfgIdle d | wrCfgWindow d | wrCfgFloor d | wrCfgThresh d | wrCfgRefract d => cases h; exact sameDatapath_cfgWrite _ d
  | rd _ | nop | clrerr | cmdReserved _ | wrIgnored _ _ =>
    cases h; exact ⟨rfl, rfl, rfl, rfl, rfl, rfl, rfl, rfl, rfl, rfl, rfl, rfl⟩

/-- No host instruction emits, and only a START that begins the loop writes EVT_COUNT, which it clears
(44_host_interface.md R190). -/
theorem exec_host_emitsNothing {i : Instr} (hs : ∀ l t, i ≠ .smp l t) (h : exec i s = .next s') :
    emitsNothing s s' ∧
      (s'.evtCount = s.evtCount ∨ s'.evtCount = 0#32 ∧ i = .start ∧ s.seq = .stopped ∧ s.inAvail = true) := by
  by_cases hst : i = .start
  · subst hst
    cases h
    split
    · split
      · exact ⟨⟨.inl rfl, rfl, rfl⟩, .inr ⟨rfl, rfl, ‹_›, ‹_›⟩⟩
      · exact ⟨⟨.inl rfl, rfl, rfl⟩, .inl rfl⟩
    · exact ⟨⟨.inl rfl, rfl, rfl⟩, .inl rfl⟩
  by_cases ha : i = .abort
  · subst ha
    cases h
    split
    · exact ⟨⟨.inr nofun, rfl, rfl⟩, .inl rfl⟩
    · exact ⟨⟨.inl rfl, rfl, rfl⟩, .inl rfl⟩
  obtain ⟨-, -, -, -, -, -, hseq, -, -, hcnt, hev, htr⟩ := exec_sameDatapath hs hst ha h
  exact ⟨⟨.inl hseq, hev, htr⟩, .inl hcnt⟩

/-! ## Samples -/

/-- A window that closes emits exactly when its code is accepted, whatever pulse it recorded last (42_decoder.md R143). -/
theorem closeWindow_emission (pw : List Word) (n : BitVec 16) (t : Time) :
    (emitsNothing s (closeWindow t { s with pw := pw, pcount := n }) ∧
      (closeWindow t { s with pw := pw, pcount := n }).evtCount = s.evtCount) ∨
    acceptsAt t s (closeWindow t { s with pw := pw, pcount := n }) := by
  rcases closeWindow_cases { s with pw := pw, pcount := n } t with ⟨_, h⟩ | ⟨_, _, h⟩ | ⟨_, _, h⟩ <;> rw [h]
  · exact .inl ⟨⟨.inr nofun, rfl, rfl⟩, rfl⟩
  · exact .inl ⟨⟨.inr nofun, rfl, rfl⟩, rfl⟩
  · exact .inr ⟨rfl, rfl, rfl, rfl, rfl, rfl, rfl, rfl, rfl⟩

/-- A sample emits exactly when it is an acceptance (43_debounce.md R163). -/
theorem SampleEffect.emission {t : Time} (h : SampleEffect t s s') :
    (emitsNothing s s' ∧ s'.evtCount = s.evtCount) ∨ acceptsAt t s s' := by
  cases h with
  | kept | pulseStart => exact .inl ⟨⟨.inl rfl, rfl, rfl⟩, rfl⟩
  | confirm | wait => rw [startIdleWait_eq]; exact .inl ⟨⟨.inl rfl, rfl, rfl⟩, rfl⟩
  | timeout => rw [startIdleWait_eq]; exact .inl ⟨⟨.inr nofun, rfl, rfl⟩, rfl⟩
  | pulseEnd => rw [recordPulse_eq]; exact .inl ⟨⟨.inl rfl, rfl, rfl⟩, rfl⟩
  | closeGap => exact closeWindow_emission s.pw s.pcount t
  | closeHigh => rw [recordPulse_eq]; exact closeWindow_emission _ _ t

/-- Settles O42: RESET and host instructions emit nothing, and a sample emits exactly when it is accepted. -/
theorem oneEmissionPerAcceptance : Obligations.OneEmissionPerAcceptance := by
  intro s t h
  obtain ⟨av, rest, ⟨hp, rfl⟩ | ⟨w, hp, h⟩⟩ := step_cases h
  · exact .inl ⟨.inr nofun, rfl, rfl, .inr ⟨rfl, av, .reset, rest, hp, .inl rfl⟩⟩
  by_cases hs : ∃ l u, decodeWire w = .smp l u
  · obtain ⟨l, u, hd⟩ := hs
    rw [hd] at h
    obtain ⟨-, rfl⟩ := exec_smp_next h
    have he := sampleEffect_onSample (s := { receive av rest s with lastT := some u }) l u
    have hl := he.lastT_params.1
    refine he.emission.imp (fun ⟨⟨ho, hev, htr⟩, hcnt⟩ => ⟨ho, hev, htr, .inl hcnt⟩) ?_
    rintro ⟨hev, htr, hcnt, hk, hseq, hv, hc, hdt, ht⟩
    exact ⟨hev, htr, hcnt, hk, hseq, hv, hc, hdt, by rw [hl, ht]⟩
  · obtain ⟨⟨ho, hev, htr⟩, hcnt⟩ := exec_host_emitsNothing (fun l u e => hs ⟨l, u, e⟩) h
    exact .inl ⟨ho, hev, htr, hcnt.imp id fun ⟨h0, hst, hq, hav⟩ =>
      ⟨h0, av, .word w, rest, hp, .inr ⟨w, rfl, hst, hq, hav⟩⟩⟩

end Sys2Proof.Machine

/-! # The decode table and the codec (O1 to O5) -/

namespace Sys2Proof

variable {a : Addr} {d : Word} {b : Bool} {i : Instr}

/-! ## The selected word -/

/-- An address is its selected word followed by the ignored bits (20_memory.md R51). -/
theorem wordIndex_append (a : Addr) : wordIndex a ++ a.extractLsb' 0 2 = a := by
  rw [wordIndex, BitVec.extractLsb'_append_extractLsb'_eq_extractLsb' (by rfl)]
  exact BitVec.extractLsb'_eq_self

/-- Clearing the ignored bits of an address leaves the selected word (20_memory.md R51). -/
theorem addr_and_eq_append (a : Addr) : a &&& 0xFFC#12 = wordIndex a ++ 0#2 := by
  have mask : 0xFFC#12 = BitVec.allOnes 10 ++ 0#2 := rfl
  calc a &&& 0xFFC#12 = (wordIndex a ++ a.extractLsb' 0 2) &&& (BitVec.allOnes 10 ++ 0#2) := by rw [wordIndex_append, mask]
    _ = wordIndex a ++ 0#2 := by rw [BitVec.and_append, BitVec.and_allOnes, BitVec.and_zero]

/-- An address masked to the word of `w` selects `w`. -/
theorem addr_and_eq_append_iff (w : WordIndex) : a &&& 0xFFC#12 = w ++ 0#2 ↔ wordIndex a = w := by
  rw [addr_and_eq_append]
  exact BitVec.append_left_inj _

/-- The writable words by their numbers, as the statements list them. -/
theorem wordIndex_mem_writableWords_iff (a : Addr) :
    wordIndex a ∈ writableWords ↔ a.toNat / 4 ∈ [0x000, 0x010, 0x011, 0x012, 0x013, 0x014] := by
  simp [writableWords, Machine.wordIndex_eq_iff_toNat]

/-! ## The decoder follows the lines of R75 -/

/-- The lines of 30_encoding.md R75, each with what it and the lines before it leave of W, A and D: the instruction that
stands for a BUS word of these fields. -/
inductive DecodeLine (a : Addr) (d : Word) : Bool → Instr → Prop where
  | rd : DecodeLine a d false (.rd a)
  | nop (ha : wordIndex a = 0x000#10) (hd : d = 0#32) : DecodeLine a d true .nop
  | start (ha : wordIndex a = 0x000#10) (hd : d = 1#32) : DecodeLine a d true .start
  | stop (ha : wordIndex a = 0x000#10) (hd : d = 2#32) : DecodeLine a d true .stop
  | abort (ha : wordIndex a = 0x000#10) (hd : d = 3#32) : DecodeLine a d true .abort
  | clrerr (ha : wordIndex a = 0x000#10) (hd : d = 4#32) : DecodeLine a d true .clrerr
  | cmdReserved (ha : wordIndex a = 0x000#10) (hd : d ∉ commandData) : DecodeLine a d true (.cmdReserved d)
  | wrCfgIdle (ha : wordIndex a = 0x010#10) : DecodeLine a d true (.wrCfgIdle d)
  | wrCfgWindow (ha : wordIndex a = 0x011#10) : DecodeLine a d true (.wrCfgWindow d)
  | wrCfgFloor (ha : wordIndex a = 0x012#10) : DecodeLine a d true (.wrCfgFloor d)
  | wrCfgThresh (ha : wordIndex a = 0x013#10) : DecodeLine a d true (.wrCfgThresh d)
  | wrCfgRefract (ha : wordIndex a = 0x014#10) : DecodeLine a d true (.wrCfgRefract d)
  | wrIgnored (ha : wordIndex a ∉ writableWords) : DecodeLine a d true (.wrIgnored a d)

theorem not_mem_commandData_iff : d ∉ commandData ↔ d ≠ 0#32 ∧ d ≠ 1#32 ∧ d ≠ 2#32 ∧ d ≠ 3#32 ∧ d ≠ 4#32 := by
  simp [commandData]

theorem not_mem_writableWords_iff {w : WordIndex} : w ∉ writableWords ↔
    w ≠ 0x000#10 ∧ w ≠ 0x010#10 ∧ w ≠ 0x011#10 ∧ w ≠ 0x012#10 ∧ w ≠ 0x013#10 ∧ w ≠ 0x014#10 := by
  simp [writableWords]

/-- A CMD write decodes by lines 2 to 7. -/
theorem decodeLine_decodeCommand (ha : wordIndex a = 0x000#10) : DecodeLine a d true (decodeCommand d) := by
  unfold decodeCommand
  split; · exact .nop ha ‹_›
  split; · exact .start ha ‹_›
  split; · exact .stop ha ‹_›
  split; · exact .abort ha ‹_›
  split; · exact .clrerr ha ‹_›
  exact .cmdReserved ha (not_mem_commandData_iff.2 ⟨‹_›, ‹_›, ‹_›, ‹_›, ‹_›⟩)

/-- A write decodes by lines 2 to 13. -/
theorem decodeLine_decodeWrite (a : Addr) (d : Word) : DecodeLine a d true (decodeWrite a d) := by
  unfold decodeWrite
  split; · exact decodeLine_decodeCommand ‹_›
  split; · exact .wrCfgIdle ‹_›
  split; · exact .wrCfgWindow ‹_›
  split; · exact .wrCfgFloor ‹_›
  split; · exact .wrCfgThresh ‹_›
  split; · exact .wrCfgRefract ‹_›
  exact .wrIgnored (not_mem_writableWords_iff.2 ⟨‹_›, ‹_›, ‹_›, ‹_›, ‹_›, ‹_›⟩)

/-- Every BUS word decodes by one of the lines. -/
theorem decodeLine_decodeBus (b : Bool) (a : Addr) (d : Word) : DecodeLine a d b (decodeBus (busWord b a d)) := by
  rw [decodeBus_busWord]
  cases b with
  | true => exact decodeLine_decodeWrite a d
  | false => exact .rd

theorem decodeCommand_eq_cmdReserved (hd : d ∉ commandData) : decodeCommand d = .cmdReserved d := by
  simp [decodeCommand, not_mem_commandData_iff.1 hd]

theorem decodeWrite_eq_wrIgnored (ha : wordIndex a ∉ writableWords) : decodeWrite a d = .wrIgnored a d := by
  simp [decodeWrite, not_mem_writableWords_iff.1 ha]

/-- The lines exclude each other: a word of a line decodes to that line's instruction. -/
theorem DecodeLine.decodeBus_eq (h : DecodeLine a d b i) : decodeBus (busWord b a d) = i := by
  rw [decodeBus_busWord]
  cases h with
  | rd => rfl
  | nop ha hd | start ha hd | stop ha hd | abort ha hd | clrerr ha hd => simp [decodeWrite, decodeCommand, ha, hd]
  | cmdReserved ha hd => simp [decodeWrite, ha, decodeCommand_eq_cmdReserved hd]
  | wrCfgIdle ha | wrCfgWindow ha | wrCfgFloor ha | wrCfgThresh ha | wrCfgRefract ha => simp [decodeWrite, ha]
  | wrIgnored ha => exact decodeWrite_eq_wrIgnored ha

/-! ## The round trips -/

@[simp] theorem wellFormed_cmdReserved_iff : (Instr.cmdReserved d).wellFormed = true ↔ d ∉ commandData := by
  simp [Instr.wellFormed]

@[simp] theorem wellFormed_wrIgnored_iff : (Instr.wrIgnored a d).wellFormed = true ↔ wordIndex a ∉ writableWords := by
  simp [Instr.wellFormed, wordIndex]

/-- Settles O1: the word an instruction is encoded to is one of its own line. -/
theorem decodeEncodeRoundTrip : Obligations.DecodeEncodeRoundTrip := by
  intro i hi
  cases i with
  | rd a => exact DecodeLine.rd.decodeBus_eq
  | nop => exact (DecodeLine.nop rfl rfl).decodeBus_eq
  | start => exact (DecodeLine.start rfl rfl).decodeBus_eq
  | stop => exact (DecodeLine.stop rfl rfl).decodeBus_eq
  | abort => exact (DecodeLine.abort rfl rfl).decodeBus_eq
  | clrerr => exact (DecodeLine.clrerr rfl rfl).decodeBus_eq
  | cmdReserved d => exact (DecodeLine.cmdReserved rfl (wellFormed_cmdReserved_iff.1 hi)).decodeBus_eq
  | wrCfgIdle d => exact (DecodeLine.wrCfgIdle rfl).decodeBus_eq
  | wrCfgWindow d => exact (DecodeLine.wrCfgWindow rfl).decodeBus_eq
  | wrCfgFloor d => exact (DecodeLine.wrCfgFloor rfl).decodeBus_eq
  | wrCfgThresh d => exact (DecodeLine.wrCfgThresh rfl).decodeBus_eq
  | wrCfgRefract d => exact (DecodeLine.wrCfgRefract rfl).decodeBus_eq
  | wrIgnored a d => exact (DecodeLine.wrIgnored (wellFormed_wrIgnored_iff.1 hi)).decodeBus_eq
  | smp l t => exact decodeSample_sampleWord l t

/-- The lines give well-formed instructions. -/
theorem DecodeLine.wellFormed (h : DecodeLine a d b i) : i.wellFormed = true := by
  cases h with
  | cmdReserved _ hd => exact wellFormed_cmdReserved_iff.2 hd
  | wrIgnored ha => exact wellFormed_wrIgnored_iff.2 ha
  | _ => rfl

/-- A write to a writable word is encoded again with `A[1:0]` cleared (log entry 14). -/
theorem DecodeLine.encode_of_mem (h : DecodeLine a d true i) (hm : wordIndex a ∈ writableWords) :
    encode i = .bus (busWord true (a &&& 0xFFC#12) d) := by
  rw [addr_and_eq_append]
  cases h with
  | nop ha hd | start ha hd | stop ha hd | abort ha hd | clrerr ha hd => rw [ha, hd]; rfl
  | cmdReserved ha | wrCfgIdle ha | wrCfgWindow ha | wrCfgFloor ha | wrCfgThresh ha | wrCfgRefract ha => rw [ha]; rfl
  | wrIgnored ha => exact absurd hm ha

/-- Settles O2: each line's instruction is well-formed and is encoded to the word without its ignored bits. -/
theorem encodeDecodeClearsIgnoredBits : Obligations.EncodeDecodeClearsIgnoredBits := by
  refine ⟨fun a d => ?_, fun a d => ?_, fun w => ⟨_, _, _, (busWord_fields w).symm⟩, fun w => ⟨rfl, ?_⟩⟩
  · exact ⟨(decodeLine_decodeBus false a d).wellFormed, by rw [decodeBus_busWord]; rfl⟩
  · have line := decodeLine_decodeBus true a d
    refine ⟨line.wellFormed, ?_⟩
    simp only [← wordIndex_mem_writableWords_iff]
    split
    · exact line.encode_of_mem ‹_›
    · rw [(DecodeLine.wrIgnored ‹_›).decodeBus_eq]; rfl
  · exact congrArg WireWord.sample (sampleWord_fields w)

/-! ## The opcode table -/

/-- A word belongs to a row of the table. -/
def TableRow.covers (r : TableRow) (w : BusWord) : Bool := w &&& r.mask == r.matchBits

/-- A row that fixes W only. -/
def directionRow (name : String) (write : Bool) : TableRow := ⟨name, busWord write 0#12 0#32, busWord true 0#12 0#32⟩

/-- A row that fixes W = 1 and `A[11:2]`. -/
def writeRow (name : String) (w : WordIndex) : TableRow := ⟨name, busWord true (w ++ 0#2) 0#32, busWord true 0xFFC#12 0#32⟩

/-- A row that fixes W = 1, `A[11:2]` of CMD, and D. -/
def commandRow (name : String) (e : Word) : TableRow :=
  ⟨name, busWord true (0x000#10 ++ 0#2) e, busWord true 0xFFC#12 (BitVec.allOnes 32)⟩

/-- The match and mask bits of the table fix fields of a word, as the lines of R75 do. -/
theorem busTable_eq_rows : busTable =
    [ directionRow "RD" false, commandRow "NOP" 0#32, commandRow "START" 1#32, commandRow "STOP" 2#32,
      commandRow "ABORT" 3#32, commandRow "CLRERR" 4#32, writeRow "CMD_RESERVED" 0x000#10, writeRow "WR_CFG_IDLE" 0x010#10,
      writeRow "WR_CFG_WINDOW" 0x011#10, writeRow "WR_CFG_FLOOR" 0x012#10, writeRow "WR_CFG_THRESH" 0x013#10,
      writeRow "WR_CFG_REFRACT" 0x014#10, directionRow "WR_IGNORED" true ] := by decide

@[simp] theorem covers_directionRow (n : String) (b' : Bool) :
    (directionRow n b').covers (busWord b a d) = decide (b = b') := by
  simp [TableRow.covers, directionRow, busWord_and, busWord_inj, beq_eq_decide]

@[simp] theorem covers_writeRow (n : String) (w : WordIndex) :
    (writeRow n w).covers (busWord true a d) = decide (wordIndex a = w) := by
  simp [TableRow.covers, writeRow, busWord_and, busWord_inj, beq_eq_decide, addr_and_eq_append_iff]

@[simp] theorem covers_commandRow (n : String) (e : Word) :
    (commandRow n e).covers (busWord true a d) = decide (wordIndex a = 0x000#10 ∧ d = e) := by
  simp only [TableRow.covers, commandRow, busWord_and, busWord_inj, beq_eq_decide, addr_and_eq_append_iff,
    BitVec.and_allOnes, Bool.and_self, true_and]

@[simp] theorem directionRow_mnemonic (n : String) (b : Bool) : (directionRow n b).mnemonic = n := rfl
@[simp] theorem writeRow_mnemonic (n : String) (w : WordIndex) : (writeRow n w).mnemonic = n := rfl
@[simp] theorem commandRow_mnemonic (n : String) (e : Word) : (commandRow n e).mnemonic = n := rfl

/-- The first row that a word of a line matches is that line's. -/
theorem DecodeLine.firstTableMatch_eq (h : DecodeLine a d b i) : firstTableMatch (busWord b a d) = some (mnemonicOf i) := by
  change (busTable.find? (·.covers (busWord b a d))).map (·.mnemonic) = _
  rw [busTable_eq_rows]
  cases h with
  | rd => simp [mnemonicOf]
  | nop ha hd | start ha hd | stop ha hd | abort ha hd | clrerr ha hd => simp [ha, hd, mnemonicOf]
  | cmdReserved ha hd => simp [ha, not_mem_commandData_iff.1 hd, mnemonicOf]
  | wrCfgIdle ha | wrCfgWindow ha | wrCfgFloor ha | wrCfgThresh ha | wrCfgRefract ha => simp [ha, mnemonicOf]
  | wrIgnored ha => simp [not_mem_writableWords_iff.1 ha, mnemonicOf]

/-- Every BUS word has the line that its decoded instruction stands in. -/
theorem decodeLine_of_decodeBus_eq {w : BusWord} (h : decodeBus w = i) :
    DecodeLine (busAddr w) (busData w) (busIsWrite w) i := by
  have line := decodeLine_decodeBus (busIsWrite w) (busAddr w) (busData w)
  rwa [busWord_fields, h] at line

theorem DecodeLine.rd_operand {a' : Addr} (h : DecodeLine a d b (.rd a')) : a' = a := by cases h; rfl

theorem DecodeLine.wrIgnored_operands {a' : Addr} {d' : Word} (h : DecodeLine a d b (.wrIgnored a' d')) :
    a' = a ∧ d' = d := by
  cases h; exact ⟨rfl, rfl⟩

/-- The operand of a reserved command and of a CFG write is D. -/
theorem DecodeLine.data_operand {e : Word} (h : DecodeLine a d b i)
    (hi : i = .cmdReserved e ∨ i = .wrCfgIdle e ∨ i = .wrCfgWindow e ∨ i = .wrCfgFloor e ∨ i = .wrCfgThresh e ∨
      i = .wrCfgRefract e) : e = d := by
  rcases hi with rfl | rfl | rfl | rfl | rfl | rfl <;> cases h <;> rfl

theorem DecodeLine.not_smp {l : Bool} {t : Time} : ¬DecodeLine a d b (.smp l t) := nofun

/-- Settles O3: a word stands in one line, whose instruction the decoder and the table both give. -/
theorem decoderIsFirstTableMatch : Obligations.DecoderIsFirstTableMatch := by
  refine ⟨fun w => ?_, fun _ => rfl, fun w => ⟨fun a h => ?_, fun a d h => ?_, fun d h => ?_⟩⟩
  · have line := (decodeLine_of_decodeBus_eq (w := w) rfl).firstTableMatch_eq
    rwa [busWord_fields] at line
  · exact (decodeLine_of_decodeBus_eq h).rd_operand
  · exact (decodeLine_of_decodeBus_eq h).wrIgnored_operands
  · exact (decodeLine_of_decodeBus_eq rfl).data_operand h

/-- Settles O4, by running the decoder on the ten words. -/
theorem spelledOutWordsDecode : Obligations.SpelledOutWordsDecode := by
  unfold Obligations.SpelledOutWordsDecode
  decide

end Sys2Proof

namespace Sys2Proof.Machine

variable (s : State)

/-! ## Reserved encodings -/

/-- An OP above 4 or a non-zero MBZ is no command's data word (30_encoding.md R77). -/
theorem not_mem_commandData_of_reserved {d : Word} (h : 5 ≤ d.toNat % 16 ∨ d.toNat / 16 ≠ 0) : d ∉ commandData := by
  simp only [not_mem_commandData_iff, ne_eq, BitVec.toNat_eq, BitVec.toNat_ofNat]
  omega

/-- CMD, the words of no register, and the slots at S and above read 0 (20_memory.md R54). -/
theorem readValue_reserved {w : WordIndex}
    (h : w.toNat = 0x000 ∨ (0x00C ≤ w.toNat ∧ w.toNat ≤ 0x00F) ∨ (0x016 ≤ w.toNat ∧ w.toNat ≤ 0x03F) ∨
      0x040 + s.params.slots ≤ w.toNat) : readValue s w = 0#32 := by
  have ne {k : WordIndex} (hk : (0x001 ≤ k.toNat ∧ k.toNat ≤ 0x00B) ∨ (0x010 ≤ k.toNat ∧ k.toNat ≤ 0x015)) : w ≠ k := by
    rintro rfl; omega
  unfold readValue
  iterate 17 refine (if_neg (ne (by decide))).trans ?_
  exact if_neg (by omega)

/-- No BUS word decodes to SMP, so each completes (30_encoding.md R77). -/
theorem exec_decodeBus_completes (w : BusWord) : ∃ t, exec (decodeBus w) s = .next t := by
  refine (exec_next_or_decreasing s (decodeBus w)).resolve_right ?_
  rintro ⟨l, t, h, -, -⟩
  exact (decodeLine_of_decodeBus_eq h).not_smp

/-- Settles O5: each reserved encoding stands in the line of an instruction that has at most the effect of R77. -/
theorem reservedEncodingsRunWithoutTrap : Obligations.ReservedEncodingsRunWithoutTrap := by
  refine ⟨fun s a d ha hd => ?_, fun s a d ha => ?_, fun s a d h => ?_, exec_decodeBus_completes⟩
  · have hw : wordIndex a = 0x000#10 := (wordIndex_eq_iff_toNat a _).2 ha
    exact ⟨(DecodeLine.cmdReserved hw (not_mem_commandData_of_reserved hd)).decodeBus_eq, rfl⟩
  · have hw : wordIndex a ∉ writableWords := fun h => ha ((wordIndex_mem_writableWords_iff a).1 h)
    exact ⟨(DecodeLine.wrIgnored hw).decodeBus_eq, rfl⟩
  · rw [← wordIndex_toNat] at h
    rw [DecodeLine.rd.decodeBus_eq, ← readValue_reserved s h]
    rfl

end Sys2Proof.Machine

/-! # The step and the order of samples (O7, O10, O26, O27) -/

namespace Sys2Proof.Machine

variable (s : State)

/-- Settles O7: taking an arrival is writing the port fields, and a well-formed instruction is read back from its encoding. -/
theorem stepRunsDecodedInstruction : Obligations.StepRunsDecodedInstruction := by
  have decoded (s : State) (av : Bool) (w : WireWord) (rest : List Arrival) (hp : s.pending = ⟨av, .word w⟩ :: rest) :
      step s = exec (decodeWire w) (receive av rest s) := by rw [step, hp]
  refine ⟨decoded, fun s av i rest hi hp => (decoded s av _ rest hp).trans ?_⟩
  rw [decodeEncodeRoundTrip i hi]
  rfl

/-- Settles O10: RESET and host instructions complete, and a sample's only fault is another one. -/
theorem noStepWithoutEvent : Obligations.NoStepWithoutEvent := by
  refine fun s => ⟨fun h => ?_, fun hp => by rw [step, hp]⟩
  unfold step at h
  split at h
  · assumption
  · rename_i av w rest _
    rcases exec_next_or_decreasing (receive av rest s) (decodeWire w) with ⟨_, h'⟩ | ⟨_, _, _, _, h'⟩ <;>
      cases h'.symm.trans h
  · cases h

/-- The order of a sample, as the statements write it (40_cycle_fsm.md R102). -/
theorem lastTime_le_iff (t : Time) : lastTime s ≤ t.toNat ↔ ∀ u, s.lastT = some u → u.toNat ≤ t.toNat := by
  unfold lastTime
  cases s.lastT <;> simp

/-- Settles O26: a sample completes exactly when it is in order, and coherence puts every instant before LAST_T. -/
theorem sampleCompletesInOrder : Obligations.SampleCompletesInOrder := by
  intro s l t
  simp only [exec_smp_eq, ← lastTime_le_iff]
  refine ⟨fun ho => ⟨_, if_pos ho, (sampleEffect_onSample l t).lastT_params.1⟩, fun u hu ht => if_neg ?_, fun c ho => ?_⟩
  · rw [lastTime_of_lastT hu]; exact Nat.not_le.2 ht
  · exact ⟨c.t0_past.trans ho, c.ws_past.trans ho, c.ps_past.trans ho, c.db_past.trans ho⟩

/-- Settles O27: the dispatch on STATE leaves the state as it is. -/
theorem sampleIgnoredWithoutLoop : Obligations.SampleIgnoredWithoutLoop := by
  intro s l t hq ho
  rw [exec_smp_eq, if_pos ((lastTime_le_iff s t).2 ho), onSample]
  rcases hq with hq | hq <;> rw [hq]

end Sys2Proof.Machine

/-! # The frame of a sample (O36) -/

namespace Sys2Proof.Machine

variable {s s' : State}

/-- The error flags, the port level, the list of arrivals and the read value: what no sample writes, the CFG registers and
the build aside. -/
def sameInputs (s s' : State) : Prop :=
  s'.cmdErr = s.cmdErr ∧ s'.cfgErr = s.cfgErr ∧ s'.initFault = s.initFault ∧ s'.inAvail = s.inAvail ∧
    s'.pending = s.pending ∧ s'.rdata = s.rdata

/-- The debounce state is as it was (10_state.md R29). -/
def sameDebounce (s s' : State) : Prop := s'.dbValid = s.dbValid ∧ s'.dbCode = s.dbCode ∧ s'.dbTime = s.dbTime

/-- Closing a window writes none of the inputs, whatever pulse it recorded last. -/
theorem closeWindow_keepsInputs (pw : List Word) (n : BitVec 16) (t : Time) :
    sameInputs s (closeWindow t { s with pw := pw, pcount := n }) := by
  rcases closeWindow_cases { s with pw := pw, pcount := n } t with ⟨_, h⟩ | ⟨_, _, h⟩ | ⟨_, _, h⟩ <;> rw [h] <;>
    exact ⟨rfl, rfl, rfl, rfl, rfl, rfl⟩

/-- No sample writes an input. -/
theorem SampleEffect.keepsInputs {t : Time} (h : SampleEffect t s s') : sameInputs s s' := by
  cases h with
  | kept | pulseStart => exact ⟨rfl, rfl, rfl, rfl, rfl, rfl⟩
  | confirm | timeout | wait => rw [startIdleWait_eq]; exact ⟨rfl, rfl, rfl, rfl, rfl, rfl⟩
  | pulseEnd => rw [recordPulse_eq]; exact ⟨rfl, rfl, rfl, rfl, rfl, rfl⟩
  | closeGap => exact closeWindow_keepsInputs s.pw s.pcount t
  | closeHigh => rw [recordPulse_eq]; exact closeWindow_keepsInputs _ _ t

/-- A window that closes without an acceptance keeps the debounce state (43_debounce.md R161). -/
theorem closeWindow_keepsDebounce (pw : List Word) (n : BitVec 16) (t : Time) :
    sameDebounce s (closeWindow t { s with pw := pw, pcount := n }) ∨
      acceptsAt t s (closeWindow t { s with pw := pw, pcount := n }) := by
  rcases closeWindow_cases { s with pw := pw, pcount := n } t with ⟨_, h⟩ | ⟨_, _, h⟩ | ⟨_, _, h⟩ <;> rw [h]
  · exact .inl ⟨rfl, rfl, rfl⟩
  · exact .inl ⟨rfl, rfl, rfl⟩
  · exact .inr ⟨rfl, rfl, rfl, rfl, rfl, rfl, rfl, rfl, rfl⟩

/-- Only an acceptance writes the debounce state (43_debounce.md R161). -/
theorem SampleEffect.keepsDebounce {t : Time} (h : SampleEffect t s s') : sameDebounce s s' ∨ acceptsAt t s s' := by
  cases h with
  | kept | pulseStart => exact .inl ⟨rfl, rfl, rfl⟩
  | confirm | timeout | wait => rw [startIdleWait_eq]; exact .inl ⟨rfl, rfl, rfl⟩
  | pulseEnd => rw [recordPulse_eq]; exact .inl ⟨rfl, rfl, rfl⟩
  | closeGap => exact closeWindow_keepsDebounce s.pw s.pcount t
  | closeHigh => rw [recordPulse_eq]; exact closeWindow_keepsDebounce _ _ t

/-- An acceptance counts an outcome, with the kind ACCEPTED. -/
theorem acceptsAt.not_quiet {t : Time} (h : acceptsAt t s s') : ¬(s'.outSeq = s.outSeq ∨ s'.outKind ≠ .accepted) := by
  obtain ⟨-, -, -, hk, hseq, -⟩ := h
  rintro (h | h)
  · simp [hseq] at h
  · exact h hk

/-- A sample in IDLE_WAIT opens the window, times out or waits on (41_acquirer.md R120, R122). -/
theorem onSample_idleWait (s : State) (l : Bool) (t : Time) (hq : s.seq = .idleWait) :
    (l = false ∧ onSample l t s = confirmIdle t (startIdleWait t s)) ∨
    (l = true ∧ onSample l t s = finish .noSignal t (startIdleWait t s)) ∨
    (l = true ∧ t.toNat - (startIdleWait t s).t0.toNat < s.cfgIdle.toNat ∧ onSample l t s = startIdleWait t s) := by
  have hc : (startIdleWait t s).cfgIdle = s.cfgIdle := by rw [startIdleWait_eq]
  simp only [onSample, hq, idleWaitSample, hc]
  cases l with
  | false => exact .inl ⟨rfl, rfl⟩
  | true =>
    by_cases h : t.toNat - (startIdleWait t s).t0.toNat < s.cfgIdle.toNat
    · exact .inr (.inr ⟨rfl, h, by rw [elapsed_of_lt h]; rfl⟩)
    · exact .inr (.inl ⟨rfl, by rw [elapsed_of_le (not_lt.1 h)]; rfl⟩)

/-- Settles O36, from the parts of the frame. -/
theorem sampleFrame : Obligations.SampleFrame := by
  intro s t l u h
  obtain ⟨-, rfl⟩ := exec_smp_next h
  have he := sampleEffect_onSample (s := { s with lastT := some u }) l u
  obtain ⟨hlast, hparams⟩ := he.lastT_params
  obtain ⟨hcmd, hcfg, hinit, hav, hpend, hrd⟩ := he.keepsInputs
  refine ⟨he.keepsCfg, hcmd, hcfg, hinit, hparams, hav, hpend, hrd, hlast, fun hq hl => ?_, fun hn => ?_⟩
  · rcases onSample_idleWait { s with lastT := some u } l u hq with ⟨hf, -⟩ | ⟨-, h⟩ | ⟨-, -, h⟩
    · exact absurd (hf.symm.trans hl) Bool.false_ne_true
    · rw [h, startIdleWait_eq]; exact ⟨rfl, rfl, rfl, rfl⟩
    · rw [h, startIdleWait_eq]; exact ⟨rfl, rfl, rfl, rfl⟩
  · obtain ⟨hv, hc, ht⟩ := he.keepsDebounce.resolve_right fun ha => ha.not_quiet hn
    obtain ⟨⟨-, hev, htr⟩, hcnt⟩ := he.emission.resolve_right fun ha => ha.not_quiet hn
    exact ⟨hv, hc, ht, hcnt, hev, htr⟩

end Sys2Proof.Machine

/-! # The transition table (O39) -/

namespace Sys2Proof.Machine

variable {s s' : State}

/-- A window's end after a pulse leads where `finish` does (40_cycle_fsm.md R107). -/
theorem closeWindow_recordPulse_seq (d : Nat) (t : Time) : (closeWindow t (recordPulse d s)).seq = afterFinish s := by
  rw [closeWindow_seq, recordPulse_eq]; rfl

/-- A period has not elapsed: the other side of `elapsed_iff`. -/
theorem elapsed_eq_false_iff (r t : Time) (p : Word) : elapsed r t p = false ↔ ¬p.toNat ≤ t.toNat - r.toNat := by
  rw [← Bool.not_eq_true, elapsed_iff]

/-- The table's lines for a sample, one per case of its dispatch (40_cycle_fsm.md R104). -/
theorem onSample_seq {w : WireWord} {l : Bool} {t : Time} (hw : decodeWire w = .smp l t) (av : Bool) :
    (onSample l t s).seq = transitionTable s av (.word w) := by
  rcases onSample_cases s l t with ⟨hq | hq, h⟩ | ⟨hq, hl, h⟩ | ⟨hq, hl, he, h⟩ | ⟨hq, hl, he, h⟩ | ⟨hq, he, h⟩ |
    ⟨hq, he, hl, h⟩ | ⟨hq, he, hl, h⟩ | ⟨hq, he, h⟩ | ⟨hq, he, hl, h⟩ | ⟨hq, he, hl, h⟩ <;>
    simp only [transitionTable, hq, hw, h]
  · rw [if_pos hl]; rfl
  · rw [startIdleWait_eq, elapsed_iff] at he
    rw [if_neg (by simp [hl]), if_pos he, startIdleWait_eq]; rfl
  · rw [startIdleWait_eq, elapsed_eq_false_iff] at he
    rw [if_neg (by simp [hl]), if_neg he, startIdleWait_eq]; exact hq
  · rw [if_pos ((elapsed_iff _ _ _).1 he), closeWindow_seq]
  · rw [if_neg ((elapsed_eq_false_iff _ _ _).1 he), if_pos hl]
  · rw [if_neg ((elapsed_eq_false_iff _ _ _).1 he), if_neg (by simp [hl])]
  · rw [if_pos ((elapsed_iff _ _ _).1 he), closeWindow_recordPulse_seq]
  · rw [if_neg ((elapsed_eq_false_iff _ _ _).1 he), if_pos hl]
  · rw [if_neg ((elapsed_eq_false_iff _ _ _).1 he), if_neg (by simp [hl])]

theorem cfgWrite_seq (r : CfgReg) (d : Word) : (cfgWrite r d s).seq = s.seq := by
  rcases cfgWrite_cases s r d with ⟨_, h⟩ | ⟨_, h⟩ <;> rw [h]
  · rw [setCfg_eq]
  · rfl

/-- The table's lines for START, STOP and ABORT; no other host instruction has one (40_cycle_fsm.md R104). -/
theorem exec_host_seq {w : WireWord} (hs : ∀ l t, decodeWire w ≠ .smp l t) (h : exec (decodeWire w) s = .next s') :
    s'.seq = transitionTable s s.inAvail (.word w) := by
  generalize hi : decodeWire w = i at hs h
  cases i with
  | smp l t => exact absurd rfl (hs l t)
  | start => cases h; cases hq : s.seq <;> cases hav : s.inAvail <;> simp [transitionTable, hi, hq]
  | stop => cases h; cases hq : s.seq <;> cases hv : s.t0Valid <;> simp [transitionTable, hi, requestStop, running, hq, hv]
  | abort => cases h; cases hq : s.seq <;> simp [transitionTable, hi, running, hq]
  | wrCfgIdle d | wrCfgWindow d | wrCfgFloor d | wrCfgThresh d | wrCfgRefract d =>
    cases h; rw [cfgWrite_seq]; cases hq : s.seq <;> simp [transitionTable, hi, hq]
  | rd _ | nop | clrerr | cmdReserved _ | wrIgnored _ _ => cases h; cases hq : s.seq <;> simp [transitionTable, hi, hq]

/-- Settles O39, by the lines of the table. -/
theorem stateFollowsTransitionTable : Obligations.StateFollowsTransitionTable := by
  intro s t av e rest hp h
  obtain ⟨av', rest', ⟨hp', rfl⟩ | ⟨w, hp', h⟩⟩ := step_cases h <;> cases hp.symm.trans hp'
  · rfl
  by_cases hs : ∃ l u, decodeWire w = .smp l u
  · obtain ⟨l, u, hd⟩ := hs
    rw [hd] at h
    obtain ⟨-, rfl⟩ := exec_smp_next h
    exact onSample_seq hd av
  · exact exec_host_seq (fun l u e => hs ⟨l, u, e⟩) h

end Sys2Proof.Machine

/-! # A cycle that waits for a period: what an event does to it (O48, O49, O50) -/

namespace Sys2Proof.Machine

variable {s s' u : State}

/-- The running cycle has consumed a sample and waits for a period: an open window, or an idle wait with T0
(40_cycle_fsm.md R105). -/
def waits (s : State) : Prop := capturing s = true ∨ s.seq = .idleWait ∧ s.t0Valid = true

/-- What a cycle waits for is unchanged: its phase and the end of its period. -/
structure SameWait (s s' : State) : Prop where
  waits : waits s'
  phase : capturing s' = capturing s
  period : deadline s' = deadline s
  window : s'.cfgWindow = s.cfgWindow
  outSeq : s'.outSeq = s.outSeq

/-- The idle wait ended at `t` with the idle level: the window opens (41_acquirer.md R121). -/
def opensWindow (t : Time) (s s' : State) : Prop :=
  capturing s = false ∧ capturing s' = true ∧ deadline s' = t.toNat + s.cfgWindow.toNat ∧ s'.cfgWindow = s.cfgWindow ∧
    s'.outSeq = s.outSeq

/-- The cycle ended at `t` with an outcome (40_cycle_fsm.md R107). -/
def endsCycle (t : Time) (s s' : State) : Prop :=
  s'.outSeq = s.outSeq + 1#16 ∧ s'.outTime = t ∧ (s'.seq = .idleWait ∨ s'.seq = .stopped) ∧ s'.t0Valid = false

theorem waits.running (h : waits s) : running s = true := by
  rw [running_iff, ← capturing_iff]
  exact h.symm.imp And.left id

/-- STOP never ends a cycle that waits (44_host_interface.md R191). -/
theorem waits.not_top (h : waits s) : ¬(s.seq = .idleWait ∧ s.t0Valid = false) := by
  rintro ⟨hq, hv⟩
  rcases h with h | ⟨-, h⟩
  · simp [capturing, hq] at h
  · exact Bool.false_ne_true (hv.symm.trans h)

theorem waits_of_t0Valid (hr : running s = true) (hv : s.t0Valid = true) : waits s :=
  ((running_iff s).1 hr).elim (fun hq => .inr ⟨hq, hv⟩) fun h => .inl ((capturing_iff s).2 h)

theorem deadline_capturing (h : capturing s = true) : deadline s = s.ws.toNat + s.cfgWindow.toNat := by
  unfold deadline
  rcases (capturing_iff s).1 h with hq | hq <;> rw [hq]

theorem deadline_idleWait (hq : s.seq = .idleWait) (hv : s.t0Valid = true) :
    deadline s = s.t0.toNat + s.cfgIdle.toNat := by
  unfold deadline
  rw [hq, hv]; rfl

/-! ## Host instructions -/

/-- A host instruction but ABORT writes STOP_PEND, the error flags and the ports of a cycle that waits, and no more
(44_host_interface.md R195, 60_exceptions.md R218). -/
theorem arrive_host_eq {a : Arrival} (hw : waits s) (hs : a.sample? = none) (hk : a.keepsCycle = true) :
    ∃ cmd cfg rd, arrive a s = .next { s with
      stopPend := s.stopPend || a.stops
      cmdErr := cmd
      cfgErr := cfg
      inAvail := a.inAvail
      rdata := rd
      evtOut := none } := by
  obtain ⟨t, h, ht⟩ := arrive_host s hw.running hs hk fun _ => hw.not_top
  exact ⟨_, _, _, h.trans (congrArg _ ht)⟩

/-- ABORT and RESET are the events that `keepsCycle` leaves out, and they stop a running loop (40_cycle_fsm.md R104). -/
theorem arrive_ends {a : Arrival} (hr : running s = true) (hk : a.keepsCycle = false) (h : arrive a s = .next s') :
    s'.seq = .stopped := by
  rcases arrival_cases a with ⟨he, -⟩ | ⟨w, he, -, h1, -⟩
  · rw [arrive_reset s he] at h; cases h; rfl
  · rw [h1] at hk
    rw [arrive_abort s he (not_not.1 (of_decide_eq_false hk)) hr] at h
    cases h; rfl

/-- Settles O50, by induction on the number of events without a sample. -/
theorem openCycleNeedsSamples : Obligations.OpenCycleNeedsSamples := by
  intro ev st hrun n m hr hv hnm hk
  have hopen : (st m).seq = (st n).seq ∧ (st m).t0Valid = true ∧ (st m).outSeq = (st n).outSeq ∧
      (st m).outKind = (st n).outKind ∧ (st m).trace = (st n).trace := by
    induction m, hnm using Nat.le_induction with
    | base => exact ⟨rfl, hv, rfl, rfl, rfl⟩
    | succ m hnm ih =>
      obtain ⟨hq, hv', hseq, hkind, htr⟩ := ih fun k h1 h2 => hk k h1 (h2.trans m.lt_succ_self)
      obtain ⟨hs, hke⟩ := hk m hnm m.lt_succ_self
      obtain ⟨_, _, _, h⟩ := arrive_host_eq (waits_of_t0Valid ((running_congr hq).trans hr) hv') hs hke
      rw [hrun m] at h
      injection h with h
      rw [h]
      exact ⟨hq, hv', hseq, hkind, htr⟩
  obtain ⟨hq, hv', hseq, hkind, htr⟩ := hopen
  exact ⟨hq, hv', hseq, hkind, htr, fun he => arrive_ends ((running_congr hq).trans hr) he (hrun m)⟩

/-! ## Samples -/

/-- The state in which the sample that `a` brings at `t` is dispatched: taken, with LAST_T written (40_cycle_fsm.md R106). -/
abbrev takeSample (a : Arrival) (t : Time) (s : State) : State :=
  { receive a.inAvail s.pending s with lastT := some t }

/-- After the dispatch LAST_T is still the sample's time. -/
theorem lastTime_onSample (l : Bool) (t : Time) (a : Arrival) (s : State) :
    lastTime (onSample l t (takeSample a t s)) = t.toNat :=
  lastTime_of_lastT (sampleEffect_onSample l t).lastT_params.1

theorem afterFinish_cases (s : State) : afterFinish s = .idleWait ∨ afterFinish s = .stopped := by
  unfold afterFinish
  cases s.stopPend
  · exact .inl rfl
  · exact .inr rfl

/-- A window that closes ends the cycle (41_acquirer.md R126). -/
theorem closeWindow_endsCycle (s : State) (t : Time) : endsCycle t s (closeWindow t s) := by
  obtain ⟨-, -, -, -, -, -, -, hv, -, ht, hseq⟩ := closeWindow_frame s t
  exact ⟨hseq, ht, closeWindow_seq s t ▸ afterFinish_cases s, hv⟩

/-- The first sample of a cycle acts as if its time had been T0 already (41_acquirer.md R120). -/
theorem onSample_startIdleWait (l : Bool) (t : Time) (hq : s.seq = .idleWait) :
    onSample l t (startIdleWait t s) = onSample l t s := by
  have hq' : (startIdleWait t s).seq = .idleWait := by rw [startIdleWait_eq]; exact hq
  have idem : startIdleWait t (startIdleWait t s) = startIdleWait t s := by rw [startIdleWait_eq s]; rfl
  rw [onSample, onSample, hq, hq']
  simp only [idleWaitSample, idem]

/-- A sample ends the cycle that waits, opens its window, or comes before the end of its period and leaves it waiting
(41_acquirer.md R120 to R124). -/
theorem onSample_waits (l : Bool) (t : Time) (hw : waits s) :
    endsCycle t s (onSample l t s) ∨ opensWindow t s (onSample l t s) ∨
      (t.toNat < deadline s ∧ SameWait s (onSample l t s)) := by
  rcases hw with hc | ⟨hq, hv⟩
  · rcases onSample_capturing s l t hc with ⟨-, r, hr, h⟩ | ⟨hlt, hc', hws, hcfg, hseq, -⟩
    · left
      rw [h]
      have hrs : r.outSeq = s.outSeq := by
        rcases hr with rfl | rfl
        · rfl
        · rw [recordPulse_eq]
      have he := closeWindow_endsCycle r t
      rwa [endsCycle, hrs] at he
    · refine .inr (.inr ⟨?_, .inl hc', hc'.trans hc.symm, ?_, hcfg, hseq⟩)
      · rw [deadline_capturing hc]; omega
      · rw [deadline_capturing hc', deadline_capturing hc, hws, hcfg]
  · have hs : startIdleWait t s = s := if_pos hv
    have hc : capturing s = false := by simp [capturing, hq]
    rcases onSample_idleWait s l t hq with ⟨-, h⟩ | ⟨-, h⟩ | ⟨-, hlt, h⟩ <;> rw [h, hs]
    · exact .inr (.inl ⟨hc, rfl, rfl, rfl, rfl⟩)
    · exact .inl ⟨rfl, rfl, afterFinish_cases s, rfl⟩
    · rw [hs] at hlt
      refine .inr (.inr ⟨?_, .inr ⟨hq, hv⟩, rfl, rfl, rfl, rfl⟩)
      rw [deadline_idleWait hq hv]; omega

end Sys2Proof.Machine

/-! # Bounded response (O48) -/

namespace Sys2Proof.Machine

variable {s s' u : State}

/-- The latest end of a cycle whose samples are at most `g` apart: one gap after its window, which opens at most one gap
after its idle wait (40_cycle_fsm.md R111). -/
def latestEnd (g : Nat) (s : State) : Nat :=
  if capturing s then deadline s + g else deadline s + s.cfgWindow.toNat + 2 * g

/-- Every period ends before the cycle's latest end. -/
theorem deadline_add_le_latestEnd (g : Nat) (s : State) : deadline s + g ≤ latestEnd g s := by
  unfold latestEnd; split <;> omega

theorem SameWait.latestEnd_eq (h : SameWait s s') (g : Nat) : latestEnd g s' = latestEnd g s := by
  rw [latestEnd, latestEnd, h.phase, h.period, h.window]

/-- A window that opens at most one gap after the idle wait closes in time. -/
theorem opensWindow.latestEnd_le {t : Time} {g : Nat} (h : opensWindow t s s') (ht : t.toNat ≤ deadline s + g) :
    latestEnd g s' ≤ latestEnd g s := by
  obtain ⟨hc, hc', hd, -⟩ := h
  rw [latestEnd, latestEnd, hc, hc', hd, if_pos rfl, if_neg Bool.false_ne_true]
  omega

/-- The cycle that runs in `u` ends in the run of some first part of `es`, at `b` at the latest. -/
def EndsBy (b : Nat) (es : List Arrival) (u : State) : Prop :=
  ∃ ys zs t v, es = ys ++ zs ∧ eventRun ys u = some v ∧ endsCycle t u v ∧ t.toNat ≤ b

/-- An event that records no outcome may stand before the end. -/
theorem EndsBy.cons {b : Nat} {es : List Arrival} {a : Arrival} (h : EndsBy b es u) (ha : arrive a s = .next u)
    (hseq : u.outSeq = s.outSeq) : EndsBy b (a :: es) s := by
  obtain ⟨ys, zs, t, v, rfl, hv, he, ht⟩ := h
  rw [endsCycle, hseq] at he
  exact ⟨a :: ys, zs, t, v, rfl, (eventRun_cons _ ha ys).trans hv, he, ht⟩

/-- A cycle that waits ends by any bound that its latest end is within, if its samples are at most `g` apart and pass the
bound: induction over the events, where each sample before the end leaves the samples past the bound to come. -/
theorem endsBy_of_waits {g b : Nat} (es : List Arrival) {p : Time} (hw : waits u) (hl : lastTime u ≤ p.toNat)
    (hp : p.toNat ≤ deadline u) (hb : latestEnd g u ≤ b) (hk : ∀ a ∈ es, a.keepsCycle = true)
    (ho : OrderedWithin g p (samplesOf es)) (hx : ∃ x ∈ samplesOf es, b < x.2.toNat) : EndsBy b es u := by
  induction es generalizing u p with
  | nil => obtain ⟨x, hx, -⟩ := hx; cases hx
  | cons a es ih =>
    obtain ⟨ha, hk⟩ := List.forall_mem_cons.1 hk
    cases hs : a.sample? with
    | none =>
      rw [samplesOf_cons_host hs] at ho hx
      obtain ⟨_, _, _, h⟩ := arrive_host_eq hw hs ha
      refine EndsBy.cons ?_ h rfl
      exact ih (p := p) hw hl hp hb hk ho hx
    | some x =>
      obtain ⟨l, t⟩ := x
      rw [samplesOf_cons_sample hs] at ho hx
      obtain ⟨hpt, htg, ho⟩ := ho
      have h := arrive_sample u hs (hl.trans hpt)
      have hlast := (lastTime_onSample l t a u).le
      have hd := deadline_add_le_latestEnd g u
      have hrest (htb : t.toNat ≤ b) : ∃ x ∈ samplesOf es, b < x.2.toNat := by
        obtain ⟨x, hm, hlt⟩ := hx
        rcases List.mem_cons.1 hm with rfl | hm
        · exact absurd hlt (not_lt.2 htb)
        · exact ⟨x, hm, hlt⟩
      have htb : t.toNat ≤ b := by
        dsimp only at htg
        omega
      rcases onSample_waits l t (s := takeSample a t u) hw with he | ho' | ⟨hlt, hs'⟩
      · exact ⟨[a], es, t, _, rfl, eventRun_cons _ h [], he, htb⟩
      · have hle := ho'.latestEnd_le (g := g) (htg.trans (Nat.add_le_add_right hp g))
        obtain ⟨-, hc, hdl, -, hseq⟩ := ho'
        exact (ih (p := t) (.inl hc) hlast (hdl ▸ Nat.le_add_right _ _) (hle.trans hb) hk ho (hrest htb)).cons h hseq
      · have heq := hs'.latestEnd_eq g
        exact (ih (p := t) hs'.waits hlast (hs'.period ▸ hlt.le) (heq.trans_le hb) hk ho (hrest htb)).cons h hs'.outSeq

/-- An outcome is counted, so a cycle does not end without an event. -/
theorem not_endsCycle_self {t : Time} : ¬endsCycle t s s := by
  rintro ⟨h, -⟩
  simp at h

/-- The first sample of a cycle is taken as if its time had been T0 already (41_acquirer.md R120). -/
theorem arrive_startIdleWait {a : Arrival} {l : Bool} {t : Time} (hs : a.sample? = some (l, t)) (hq : s.seq = .idleWait)
    (hl : lastTime s ≤ t.toNat) : arrive a (startIdleWait t s) = arrive a s := by
  have hl' : lastTime (startIdleWait t s) ≤ t.toNat := by rw [startIdleWait_eq]; exact hl
  have hcomm : takeSample a t (startIdleWait t s) = startIdleWait t (takeSample a t s) := by
    rw [startIdleWait_eq, startIdleWait_eq]; rfl
  rw [arrive_sample _ hs hl', arrive_sample s hs hl]
  exact congrArg _ ((congrArg _ hcomm).trans (onSample_startIdleWait (s := takeSample a t s) l t hq))

/-- An arrival that brings a sample is a word that decodes to SMP. -/
theorem exists_word_of_sample {a : Arrival} {l : Bool} {t : Time} (h : a.sample? = some (l, t)) :
    ∃ w, a.event = .word w ∧ decodeWire w = .smp l t := by
  rcases arrival_cases a with ⟨-, h', -⟩ | ⟨w, he, -, -, ⟨l', t', hd, h'⟩ | ⟨-, h'⟩⟩
  · cases h.symm.trans h'
  · cases h.symm.trans h'; exact ⟨w, he, hd⟩
  · cases h.symm.trans h'

/-- A sample is neither ABORT nor RESET. -/
theorem keepsCycle_of_sample {a : Arrival} {l : Bool} {t : Time} (h : a.sample? = some (l, t)) : a.keepsCycle = true := by
  obtain ⟨w, he, hd⟩ := exists_word_of_sample h
  simp [Arrival.keepsCycle, he, hd]

/-- Nor is it STOP. -/
theorem stops_of_sample {a : Arrival} {l : Bool} {t : Time} (h : a.sample? = some (l, t)) : a.stops = false := by
  obtain ⟨w, he, hd⟩ := exists_word_of_sample h
  simp [Arrival.stops, he, hd]

/-- Settles O48: the first sample acts as in the state where the idle wait has begun at its time, and that cycle waits. -/
theorem cycleEndsInTime : Obligations.CycleEndsInTime := by
  intro s g first l0 t0 es hq hv hf hk hl ho ⟨x, hx, hlt⟩
  have hl := (lastTime_le_iff s t0).2 hl
  have hbegun := startIdleWait_eq s t0
  rw [hv, if_neg Bool.false_ne_true] at hbegun
  have hends : EndsBy (t0.toNat + s.cfgIdle.toNat + s.cfgWindow.toNat + 2 * g) (first :: es) (startIdleWait t0 s) := by
    rw [hbegun]
    refine endsBy_of_waits (g := g) (p := t0) (first :: es) (.inr ⟨hq, rfl⟩) hl ?_ ?_
      (List.forall_mem_cons.2 ⟨keepsCycle_of_sample hf, hk⟩) ?_ ?_
    · simp [deadline, hq]
    · simp [latestEnd, deadline, capturing, hq]
    · rw [samplesOf_cons_sample hf]; exact ⟨Nat.le_refl _, Nat.le_add_right _ _, ho⟩
    · rw [samplesOf_cons_sample hf]; exact ⟨x, List.mem_cons_of_mem _ hx, hlt⟩
  obtain ⟨ys, zs, t, v, he, hrun, hend, ht⟩ := hends
  cases ys with
  | nil => cases hrun; exact absurd hend not_endsCycle_self
  | cons y ys =>
    obtain ⟨rfl, -⟩ := List.cons.inj he
    rw [eventRun, arrive_startIdleWait hf hq hl, ← eventRun] at hrun
    rw [hbegun] at hend
    obtain ⟨hseq, rfl, hst, hv'⟩ := hend
    exact ⟨_, zs, v, he, hrun, hseq, ht, hst, hv'⟩

end Sys2Proof.Machine

/-! # Liveness under a fair sampler (O49) -/

namespace Sys2Proof.Machine

variable {s s' : State} {ev : Nat → Arrival} {st : Nat → State}

/-- A running cycle goes on over the event `a`: no outcome is recorded, a sample sets it waiting, and if it waited it still
waits for the same period, which a sample has not reached, or its window opens. -/
structure GoesOn (a : Arrival) (s s' : State) : Prop where
  outSeq : s'.outSeq = s.outSeq
  starts : a.sample? ≠ none → waits s'
  stays : waits s → (capturing s = false ∧ capturing s' = true) ∨
    (SameWait s s' ∧ ∀ l t, a.sample? = some (l, t) → t.toNat < deadline s)

/-- STOP at the top of a cycle leaves the running states (44_host_interface.md R191). -/
theorem requestStop_top (h : s.seq = .idleWait ∧ s.t0Valid = false) : requestStop s = { s with seq := .stopped } :=
  if_pos h

/-- A host instruction in a running cycle either leaves the running states or lets it go on. -/
theorem arrive_host_goesOn {a : Arrival} (hr : running s = true) (hs : a.sample? = none) (h : arrive a s = .next s') :
    running s' = false ∨ GoesOn a s s' := by
  cases hk : a.keepsCycle with
  | false => exact .inl (by rw [running, arrive_ends hr hk h])
  | true =>
    by_cases htop : a.stops = true ∧ s.seq = .idleWait ∧ s.t0Valid = false
    · obtain ⟨hst, htop⟩ := htop
      rcases arrival_cases a with ⟨-, -, -, h'⟩ | ⟨w, he, h', -⟩
      · cases hst.symm.trans h'
      · rw [arrive_word s he, of_decide_eq_true (h'.symm.trans hst)] at h
        cases h
        exact .inl (congrArg running (requestStop_top (s := receive a.inAvail s.pending s) htop))
    · obtain ⟨t, ht, hts⟩ := arrive_host s hr hs hk fun hst htop' => htop ⟨hst, htop'⟩
      cases h.symm.trans ht
      rw [hts]
      refine .inr ⟨rfl, fun hn => absurd hs hn, fun hw => .inr ⟨⟨hw, rfl, rfl, rfl, rfl⟩, fun l t hn => ?_⟩⟩
      cases hs.symm.trans hn

/-- A sample in a running cycle ends it or lets it go on; the first one starts the wait. -/
theorem onSample_goesOn {a : Arrival} {l : Bool} {t : Time} (hr : running s = true) (hs : a.sample? = some (l, t)) :
    (onSample l t (takeSample a t s)).outSeq = s.outSeq + 1#16 ∨ GoesOn a s (onSample l t (takeSample a t s)) := by
  by_cases hw : waits s
  · rcases onSample_waits (s := takeSample a t s) l t hw with ⟨hseq, -⟩ | ⟨hc, hc', -, -, hseq⟩ | ⟨hlt, hw'⟩
    · exact .inl hseq
    · exact .inr ⟨hseq, fun _ => .inl hc', fun _ => .inl ⟨hc, hc'⟩⟩
    · refine .inr ⟨hw'.outSeq, fun _ => hw'.waits, fun _ => .inr ⟨{ hw' with }, fun l' t' h => ?_⟩⟩
      cases hs.symm.trans h
      exact hlt
  · have hq : s.seq = .idleWait := ((running_iff s).1 hr).resolve_right fun h => hw (.inl ((capturing_iff s).2 h))
    have hbegun : waits (startIdleWait t (takeSample a t s)) := by
      rw [startIdleWait_eq]; exact .inr ⟨hq, rfl⟩
    have hseq0 : (startIdleWait t (takeSample a t s)).outSeq = s.outSeq := by rw [startIdleWait_eq]; rfl
    rw [← onSample_startIdleWait (s := takeSample a t s) l t hq]
    rcases onSample_waits l t hbegun with ⟨hseq, -⟩ | ⟨-, hc', -, -, hseq⟩ | ⟨-, hw'⟩
    · exact .inl (hseq.trans (by rw [hseq0]))
    · exact .inr ⟨hseq.trans hseq0, fun _ => .inl hc', fun h => absurd h hw⟩
    · exact .inr ⟨hw'.outSeq.trans hseq0, fun _ => hw'.waits, fun h => absurd h hw⟩

/-- What an event does to a running cycle: it leaves the running states, it records one outcome, or the cycle goes on. -/
theorem arrive_running_cases {a : Arrival} (hr : running s = true) (h : arrive a s = .next s') :
    running s' = false ∨ s'.outSeq = s.outSeq + 1#16 ∨ GoesOn a s s' := by
  cases hs : a.sample? with
  | none => exact (arrive_host_goesOn hr hs h).imp id .inr
  | some x =>
    obtain ⟨-, rfl⟩ := arrive_sample_next hs h
    exact .inr (onSample_goesOn hr hs)

/-- A fair sampler reaches the end of every period within the clock, so no cycle waits for one period for ever. -/
theorem not_waits_forever {m : Nat} (hfair : FairSampler ev st) (hw : waits (st m)) (hd : deadline (st m) < 2 ^ 64)
    (hstay : ∀ k, m ≤ k → waits (st k) → capturing (st k) = capturing (st m) →
      SameWait (st k) (st (k + 1)) ∧ ∀ l t, (ev k).sample? = some (l, t) → t.toNat < deadline (st k)) : False := by
  have hall : ∀ k, m ≤ k → waits (st k) ∧ capturing (st k) = capturing (st m) ∧ deadline (st k) = deadline (st m) := by
    intro k hk
    induction k, hk using Nat.le_induction with
    | base => exact ⟨hw, rfl, rfl⟩
    | succ k hk ih =>
      obtain ⟨hwk, hck, hdk⟩ := ih
      obtain ⟨h, -⟩ := hstay k hk hwk hck
      exact ⟨h.waits, h.phase.trans hck, h.period.trans hdk⟩
  obtain ⟨k, hk, l, t, hs, hle⟩ := hfair m (fun k hk => (hall k hk).1.running) (BitVec.ofNat 64 (deadline (st m)))
  obtain ⟨hwk, hck, hdk⟩ := hall k hk
  have hlt := (hstay k hk hwk hck).2 l t hs
  rw [BitVec.toNat_ofNat, Nat.mod_eq_of_lt hd] at hle
  omega

/-- Settles O49: a cycle that never ended would go on at every event, start to wait at a sample, and then wait for ever for
the end of its idle wait or of its window. -/
theorem fairRunEndsEveryCycle : Obligations.FairRunEndsEveryCycle := by
  intro ev st hrun hfair n hr hd
  by_contra hno
  have hend : ∀ m, SameCycle st n m → running (st (m + 1)) = true ∧ (st (m + 1)).outSeq ≠ (st m).outSeq + 1#16 :=
    fun m hm => ⟨Bool.not_eq_false _ ▸ fun h => hno ⟨m, hm, .inl h⟩, fun h => hno ⟨m, hm, .inr h⟩⟩
  have hgo : ∀ m, SameCycle st n m → running (st m) = true → GoesOn (ev m) (st m) (st (m + 1)) := fun m hm hrm =>
    ((arrive_running_cases hrm (hrun m)).resolve_left (by simp [(hend m hm).1])).resolve_left (hend m hm).2
  have hsame : ∀ m, n ≤ m → SameCycle st n m ∧ running (st m) = true := by
    intro m hm
    induction m, hm using Nat.le_induction with
    | base => exact ⟨.refl st n, hr⟩
    | succ m _ ih => exact ⟨ih.1.succ (hend m ih.1).1 (hgo m ih.1 ih.2).outSeq, (hend m ih.1).1⟩
  replace hgo : ∀ m, n ≤ m → GoesOn (ev m) (st m) (st (m + 1)) := fun m hm => hgo m (hsame m hm).1 (hsame m hm).2
  have hgap : ∀ m, n ≤ m → capturing (st m) = false := fun m hm => Bool.not_eq_true _ ▸ fun hc =>
    not_waits_forever hfair (.inl hc) (hd m (hsame m hm).1) fun k hk hw hck =>
      ((hgo k (hm.trans hk)).stays hw).resolve_left fun h => by simp [hck, hc] at h
  obtain ⟨m, hm, l, t, hs, -⟩ := hfair n (fun m hm => (hsame m hm).2) 0#64
  have hm' := Nat.le_succ_of_le hm
  refine not_waits_forever hfair ((hgo m hm).starts (by simp [hs])) (hd _ (hsame _ hm').1) fun k hk hw _ =>
    ((hgo k (hm'.trans hk)).stays hw).resolve_left fun h => ?_
  simp [hgap (k + 1) (hm'.trans (Nat.le_succ_of_le hk))] at h

end Sys2Proof.Machine

/-! # Reception of one window: its pulse sequence and its decode, in every interleaving (O46) -/

namespace Sys2Proof.Machine

variable {s u : State}

/-! ## The bits of a code -/

/-- The number whose bits are `f 0`, …, `f (n - 1)`, most significant first, as the sum of the decoder (42_decoder.md R142). -/
def bitSum (f : Nat → Bool) (n : Nat) : Nat := ((List.range n).map fun j => (f j).toNat * 2 ^ (n - 1 - j)).sum

/-- One more bit is the new least significant one. -/
theorem bitSum_succ (f : Nat → Bool) (n : Nat) : bitSum f (n + 1) = Nat.bit (f n) (bitSum f n) := by
  have shift : (List.range n).map (fun j => (f j).toNat * 2 ^ (n + 1 - 1 - j)) =
      (List.range n).map fun j => 2 * ((f j).toNat * 2 ^ (n - 1 - j)) := by
    refine List.map_congr_left fun j hj => ?_
    have hj : j < n := List.mem_range.1 hj
    rw [show n + 1 - 1 - j = n - 1 - j + 1 by omega, Nat.pow_succ]
    ring
  rw [bitSum, List.range_succ, List.map_append, List.sum_append, shift, List.sum_map_mul_left, Nat.bit_val]
  simp [bitSum]

theorem testBit_bitSum (f : Nat → Bool) {n j : Nat} (hj : j < n) : (bitSum f n).testBit (n - 1 - j) = f j := by
  induction n with
  | zero => omega
  | succ n ih =>
    rw [bitSum_succ]
    rcases Nat.lt_succ_iff_lt_or_eq.1 hj with hj | rfl
    · rw [show n + 1 - 1 - j = n - 1 - j + 1 by omega, Nat.testBit_bit_succ, ih hj]
    · rw [show j + 1 - 1 - j = 0 by omega, Nat.testBit_bit_zero]

/-- Bit 31 - j of the code is the classification of data pulse j (42_decoder.md R141, R142). -/
theorem assemble_getLsbD (s : State) {j : Nat} (hj : j < 32) : (assemble s).getLsbD (31 - j) = dataBit s j := by
  have h : assemble s = BitVec.ofNat 32 (bitSum (dataBit s) 32) := rfl
  rw [h, BitVec.getLsbD_ofNat, decide_eq_true (by omega), Bool.true_and]
  exact testBit_bitSum (dataBit s) hj

/-- A data pulse is a 1 exactly when it is longer than CFG_THRESH (42_decoder.md R141). -/
theorem dataBit_iff (s : State) (j : Nat) :
    dataBit s j = true ↔ s.cfgThresh.toNat < (slot s (s.params.nLeader.val + j)).toNat := decide_eq_true_iff

/-! ## The high runs of a window, sample by sample -/

/-- The start of the run that is high after a sample (41_acquirer.md R128). -/
def runAfter (l : Bool) (t : Time) (start : Option Time) : Option Time := if l then some (start.getD t) else none

/-- The runs that a sample ends: the one that was high, at a low sample. -/
def endedRuns (l : Bool) (t : Time) : Option Time → List Nat
  | none => []
  | some p => if l then [] else [since p t]

theorem highRuns_nil (tc : Time) (start : Option Time) : highRuns tc start [] = endedRuns false tc start := by
  cases start <;> rfl

theorem highRuns_cons (tc : Time) (start : Option Time) (l : Bool) (t : Time) (xs : List (Bool × Time)) :
    highRuns tc start ((l, t) :: xs) = endedRuns l t start ++ highRuns tc (runAfter l t start) xs := by
  cases start <;> cases l <;> rfl

theorem keptPulses_nil (floor : Word) : keptPulses floor [] = [] := rfl

theorem keptPulses_append (floor : Word) (a b : List Nat) :
    keptPulses floor (a ++ b) = keptPulses floor a ++ keptPulses floor b := by
  rw [keptPulses, List.map_append, List.filter_append]; rfl

/-! ## A sample in an open window, by the window's end and the level -/

theorem onSample_gap_inside (l : Bool) {t : Time} (hq : s.seq = .captGap) (ht : t.toNat - s.ws.toNat < s.cfgWindow.toNat) :
    onSample l t s = if l then { s with ps := t, seq := .captHigh } else s := by
  rw [onSample, hq]
  simp only [gapSample, elapsed_of_lt ht, Bool.false_eq_true, if_false]

theorem onSample_high_inside (l : Bool) {t : Time} (hq : s.seq = .captHigh)
    (ht : t.toNat - s.ws.toNat < s.cfgWindow.toNat) :
    onSample l t s = if l then s else { recordPulse (since s.ps t) s with seq := .captGap } := by
  rw [onSample, hq]
  simp only [highSample, elapsed_of_lt ht, Bool.false_eq_true, if_false]

theorem onSample_gap_end (l : Bool) {t : Time} (hq : s.seq = .captGap) (ht : s.cfgWindow.toNat ≤ t.toNat - s.ws.toNat) :
    onSample l t s = closeWindow t s := by
  rw [onSample, hq]
  simp only [gapSample, elapsed_of_le ht, if_true]

theorem onSample_high_end (l : Bool) {t : Time} (hq : s.seq = .captHigh) (ht : s.cfgWindow.toNat ≤ t.toNat - s.ws.toNat) :
    onSample l t s = closeWindow t (recordPulse (since s.ps t) s) := by
  rw [onSample, hq]
  simp only [highSample, elapsed_of_le ht, if_true]

/-! ## The state in an open window -/

/-- In `u` a window that was opened at `tc0` in `s` has recorded the pulses `P`, and a stop is pending if `stop`; nothing
else has changed that the window's end reads or writes. -/
structure Recorded (s : State) (stop : Bool) (tc0 : Time) (P : List Word) (u : State) : Prop where
  params : u.params = s.params
  cfg : sameCfg s u
  debounce : sameDebounce s u
  outSeq : u.outSeq = s.outSeq
  outCode : u.outCode = s.outCode
  evtCount : u.evtCount = s.evtCount
  evtOut : u.evtOut = none
  trace : u.trace = s.trace
  stopPend : u.stopPend = stop
  ws : u.ws = tc0
  holds : Holds u P

/-- STATE and PS say since when the line is high, if it is. -/
def highSince (u : State) : Option Time → Prop
  | none => u.seq = .captGap
  | some p => u.seq = .captHigh ∧ u.ps = p

theorem highSince.waits {start : Option Time} (h : highSince u start) : waits u := by
  refine .inl ((capturing_iff u).2 ?_)
  cases start with
  | none => exact .inl h
  | some p => exact .inr h.1

/-- Events that leave STATE and PS keep the level. -/
theorem highSince.congr {u' : State} {start : Option Time} (h : highSince u start) (hq : u'.seq = u.seq)
    (hp : u'.ps = u.ps) : highSince u' start := by
  cases start with
  | none => exact hq.trans h
  | some p => exact ⟨hq.trans h.1, hp.trans h.2⟩

variable {stop : Bool} {tc0 t : Time} {P : List Word} {start : Option Time}

theorem Recorded.takeSample (h : Recorded s stop tc0 P u) (a : Arrival) (t : Time) :
    Recorded s stop tc0 P (takeSample a t u) := { h with evtOut := rfl }

theorem Recorded.recordPulse (h : Recorded s stop tc0 P u) (d : Nat) :
    Recorded s stop tc0 (P ++ keptPulses s.cfgFloor [d]) (recordPulse d u) := by
  obtain ⟨-, -, hfloor, -⟩ := h.cfg
  have hh := h.holds.recordPulse d
  rw [hfloor, recordPulse_eq] at hh
  rw [recordPulse_eq]
  exact { h with holds := hh }

/-- A sample inside the window records the runs it ends (41_acquirer.md R123 to R125). -/
theorem Recorded.sampleInside (h : Recorded s stop tc0 P u) (hl : highSince u start) (l : Bool)
    (ht : t.toNat - tc0.toNat < s.cfgWindow.toNat) :
    Recorded s stop tc0 (P ++ keptPulses s.cfgFloor (endedRuns l t start)) (onSample l t u) ∧
      highSince (onSample l t u) (runAfter l t start) := by
  have ht : t.toNat - u.ws.toNat < u.cfgWindow.toNat := by
    obtain ⟨-, hw, -⟩ := h.cfg
    rwa [h.ws, hw]
  cases start with
  | none =>
    rw [onSample_gap_inside l hl ht]
    cases l with
    | true => exact ⟨by rw [endedRuns, keptPulses_nil, List.append_nil]; exact { h with }, rfl, rfl⟩
    | false => exact ⟨by rwa [endedRuns, keptPulses_nil, List.append_nil], hl⟩
  | some p =>
    obtain ⟨hq, rfl⟩ := hl
    rw [onSample_high_inside l hq ht]
    cases l with
    | true => exact ⟨by rwa [endedRuns, if_pos rfl, keptPulses_nil, List.append_nil], hq, rfl⟩
    | false => exact ⟨{ h.recordPulse (since u.ps t) with }, rfl⟩

/-- A sample at or after the window's end closes it, with the run that was high recorded (41_acquirer.md R123, R124). -/
theorem Recorded.sampleEnd (h : Recorded s stop tc0 P u) (hl : highSince u start) (l : Bool)
    (ht : s.cfgWindow.toNat ≤ t.toNat - tc0.toNat) :
    ∃ v, onSample l t u = closeWindow t v ∧
      Recorded s stop tc0 (P ++ keptPulses s.cfgFloor (endedRuns false t start)) v := by
  have ht : u.cfgWindow.toNat ≤ t.toNat - u.ws.toNat := by
    obtain ⟨-, hw, -⟩ := h.cfg
    rwa [h.ws, hw]
  cases start with
  | none => exact ⟨u, onSample_gap_end l hl ht, by rwa [endedRuns, keptPulses_nil, List.append_nil]⟩
  | some p =>
    obtain ⟨hq, rfl⟩ := hl
    exact ⟨_, onSample_high_end l hq ht, h.recordPulse (since u.ps t)⟩

/-- The low sample that confirms the idle level opens an empty window (41_acquirer.md R121). -/
theorem recorded_confirmIdle (a : Arrival) (tc0 : Time) (s : State) :
    Recorded s s.stopPend tc0 [] (confirmIdle tc0 (startIdleWait tc0 (takeSample a tc0 s))) := by
  rw [startIdleWait_eq]
  exact ⟨rfl, ⟨rfl, rfl, rfl, rfl, rfl⟩, ⟨rfl, rfl, rfl⟩, rfl, rfl, rfl, rfl, rfl, rfl, rfl,
    clearedSlots_length s.params, rfl, fun i _ => clearedSlots_getD s.params i⟩

/-! ## The run of a window -/

/-- An open window runs to its end over any events but ABORT and RESET, and records the high runs of their samples. -/
theorem Recorded.run {last : Arrival} {tc prev : Time} {lc : Bool} (es : List Arrival) (h : Recorded s stop tc0 P u)
    (hh : highSince u start) (hl : lastTime u ≤ prev.toNat) (hlast : last.sample? = some (lc, tc))
    (hk : ∀ a ∈ es, a.keepsCycle = true) (ho : Ordered prev (samplesOf es ++ [(lc, tc)]))
    (hin : ∀ x ∈ samplesOf es, x.2.toNat - tc0.toNat < s.cfgWindow.toNat)
    (hend : s.cfgWindow.toNat ≤ tc.toNat - tc0.toNat) :
    ∃ v, eventRun (es ++ [last]) u = some (closeWindow tc v) ∧
      Recorded s (stop || es.any Arrival.stops) tc0 (P ++ keptPulses s.cfgFloor (highRuns tc start (samplesOf es))) v := by
  induction es generalizing u stop P start prev with
  | nil =>
    obtain ⟨v, hv, hr⟩ := (h.takeSample last tc).sampleEnd (hh.congr rfl rfl) lc hend
    refine ⟨v, ?_, by simpa [samplesOf, highRuns_nil] using hr⟩
    rw [List.nil_append, eventRun_cons _ (arrive_sample u hlast (hl.trans ho.1)), eventRun]
    exact congrArg some hv
  | cons a es ih =>
    obtain ⟨ha, hk⟩ := List.forall_mem_cons.1 hk
    cases hs : a.sample? with
    | none =>
      rw [samplesOf_cons_host hs] at ho hin ⊢
      obtain ⟨cmd, cfg, rd, hu⟩ := arrive_host_eq hh.waits hs ha
      rw [List.cons_append, eventRun_cons _ hu, List.any_cons, ← Bool.or_assoc]
      exact ih { h with stopPend := by rw [h.stopPend], evtOut := rfl } (hh.congr rfl rfl) hl hk ho hin
    | some x =>
      obtain ⟨l, t⟩ := x
      rw [samplesOf_cons_sample hs] at ho hin ⊢
      obtain ⟨ht, hin⟩ := List.forall_mem_cons.1 hin
      obtain ⟨hr, hh⟩ := (h.takeSample a t).sampleInside (hh.congr rfl rfl) l ht
      rw [List.cons_append, eventRun_cons _ (arrive_sample u hs (hl.trans ho.1)), List.any_cons, stops_of_sample hs,
        Bool.false_or, highRuns_cons, keptPulses_append, ← List.append_assoc]
      exact ih hr hh (lastTime_onSample l t a u).le hk ho.2 hin

/-- A window from its confirming low sample to its end: it records the source's pulse sequence, whatever host instructions
but ABORT stand between its samples (41_acquirer.md R128). -/
theorem exists_recorded_window {first last : Arrival} {tc : Time} {lc : Bool} {es : List Arrival} (hq : s.seq = .idleWait)
    (hfirst : first.sample? = some (false, tc0)) (hlast : last.sample? = some (lc, tc))
    (hk : ∀ a ∈ es, a.keepsCycle = true) (hl : ∀ u, s.lastT = some u → u.toNat ≤ tc0.toNat)
    (ho : Ordered tc0 (samplesOf es ++ [(lc, tc)])) (hin : ∀ x ∈ samplesOf es, x.2.toNat - tc0.toNat < s.cfgWindow.toNat)
    (hend : s.cfgWindow.toNat ≤ tc.toNat - tc0.toNat) :
    ∃ v, eventRun (first :: es ++ [last]) s = some (closeWindow tc v) ∧
      Recorded s (s.stopPend || es.any Arrival.stops) tc0 (pulseSequence s.cfgFloor tc (samplesOf es)) v := by
  have hopen : onSample false tc0 (takeSample first tc0 s) =
      confirmIdle tc0 (startIdleWait tc0 (takeSample first tc0 s)) := by
    rw [onSample, show (takeSample first tc0 s).seq = .idleWait from hq]; rfl
  have hf := arrive_sample s hfirst ((lastTime_le_iff s tc0).2 hl)
  rw [List.cons_append, eventRun_cons _ hf, hopen]
  exact (recorded_confirmIdle first tc0 s).run es (start := none) rfl (prev := tc0)
    (hopen ▸ (lastTime_onSample false tc0 first s).le) hlast hk ho hin hend

/-! ## The decode of a window -/

/-- The sufficiency test counts the pulse sequence: PCOUNT saturates above every S (42_decoder.md R140). -/
theorem Recorded.sufficient_iff (h : Recorded s stop tc0 P u) :
    u.params.slots ≤ u.pcount.toNat ↔ s.params.nLeader.val + 32 ≤ P.length := by
  have hb := slots_bounds u.params
  have hs : u.params.slots = s.params.nLeader.val + 32 := by rw [h.params]; rfl
  obtain ⟨-, hc, -⟩ := h.holds
  rw [hc]
  omega

/-- The code of a window classifies the 32 data pulses of its sequence, most significant first (42_decoder.md R141, R142). -/
theorem Recorded.code (h : Recorded s stop tc0 P u) {j : Nat} (hj : j < 32) :
    (assemble u).getLsbD (31 - j) = true ↔ s.cfgThresh.toNat < (P.getD (s.params.nLeader.val + j) 0#32).toNat := by
  obtain ⟨-, -, -, hthresh, -⟩ := h.cfg
  obtain ⟨-, -, hslot⟩ := h.holds
  have hi : s.params.nLeader.val + j < u.params.slots := by
    rw [h.params]; exact Nat.add_lt_add_left hj _
  rw [assemble_getLsbD u hj, dataBit_iff, hthresh, h.params, hslot _ hi]

/-- The comparator of a window's end reads the debounce state of its start (43_debounce.md R160). -/
theorem Recorded.suppress_iff (h : Recorded s stop tc0 P u) (code : Word) (t : Time) :
    suppress code t u = true ↔ s.dbValid = true ∧ s.dbCode = code ∧ t.toNat - s.dbTime.toNat < s.cfgRefract.toNat := by
  obtain ⟨-, -, -, -, hr⟩ := h.cfg
  obtain ⟨hv, hc, ht⟩ := h.debounce
  rw [Machine.suppress_iff, hv, hc, ht, hr]

/-- Settles O46: the three outcomes of the window's end, over what the window recorded. -/
theorem cycleDecodesPulseSequence : Obligations.CycleDecodesPulseSequence := by
  intro s first last tc0 tc lc es hq hfirst hlast hk hl ho hin hend
  obtain ⟨v, hrun, h⟩ := exists_recorded_window hq hfirst hlast hk hl ho hin hend
  refine ⟨_, hrun, ?_⟩
  generalize pulseSequence s.cfgFloor tc (samplesOf es) = P at h ⊢
  obtain ⟨hv, hc, ht⟩ := h.debounce
  rcases closeWindow_cases v tc with ⟨hlt, he⟩ | ⟨hge, hs, he⟩ | ⟨hge, hs, he⟩ <;> rw [he]
  · have hlt := (h.sufficient_iff.not).1 (not_le.2 hlt)
    exact ⟨fun _ => ⟨rfl, h.outCode, h.trace, h.evtOut, hv, hc, ht, h.evtCount⟩, fun hge => absurd hge hlt⟩
  · have hge := h.sufficient_iff.1 hge
    rw [h.suppress_iff] at hs
    have hcode := fun j hj => h.code (j := j) hj
    generalize assemble v = code at hs hcode ⊢
    exact ⟨fun hlt => absurd hge (not_le.2 hlt), fun _ => ⟨hcode,
      fun _ => ⟨rfl, h.trace, h.evtOut, hv, hc, ht, h.evtCount⟩, fun hn => absurd hs hn⟩⟩
  · have hge := h.sufficient_iff.1 hge
    rw [← Bool.not_eq_true, h.suppress_iff] at hs
    have hcode := fun j hj => h.code (j := j) hj
    generalize assemble v = code at hs hcode ⊢
    exact ⟨fun hlt => absurd hge (not_le.2 hlt), fun _ => ⟨hcode, fun hy => absurd hy hs,
      fun _ => ⟨rfl, congrArg (· ++ _) h.trace, rfl, rfl, rfl, rfl, congrArg (· + 1#32) h.evtCount⟩⟩⟩

end Sys2Proof.Machine

/-! # Two runs of the same events from states that agree on what cycles read (O47) -/

namespace Sys2Proof.Machine

variable {s u s' u' s'' u'' : State} {r : Prop}

/-- Two runs, from `s` to `s'` and from `u` to `u'`, record the same outcomes and emit the same events: OUT_SEQ counts as
many, or is written alike, where `r`; OUT_KIND with OUT_TIME, and OUT_CODE, are written alike or left, and ABORT leaves
OUT_TIME. -/
structure SameRecord (r : Prop) (s s' u u' : State) : Prop where
  outSeq : s'.outSeq - s.outSeq = u'.outSeq - u.outSeq ∨ s'.outSeq = u'.outSeq ∧ r
  trace : ∃ out, s'.trace = s.trace ++ out ∧ u'.trace = u.trace ++ out
  outcome : (s'.outKind = u'.outKind ∧ s'.outTime = u'.outTime) ∨
    (s'.outKind = .aborted ∧ u'.outKind = .aborted ∧ s'.outTime = s.outTime ∧ u'.outTime = u.outTime) ∨
    (s'.outKind = s.outKind ∧ s'.outTime = s.outTime ∧ u'.outKind = u.outKind ∧ u'.outTime = u.outTime)
  outCode : s'.outCode = u'.outCode ∨ (s'.outCode = s.outCode ∧ u'.outCode = u.outCode)

/-- The result registers and the trace are as they were. -/
def quiet (s s' : State) : Prop := sameResults s s' ∧ s'.trace = s.trace

theorem SameRecord.of_quiet (hs : quiet s s') (hu : quiet u u') : SameRecord r s s' u u' := by
  obtain ⟨⟨hseq, hkind, hcode, htime⟩, htr⟩ := hs
  obtain ⟨⟨hseq', hkind', hcode', htime'⟩, htr'⟩ := hu
  exact ⟨.inl (by rw [hseq, hseq', BitVec.sub_self, BitVec.sub_self]), ⟨[], by simpa using htr, by simpa using htr'⟩,
    .inr (.inr ⟨hkind, htime, hkind', htime'⟩), .inr ⟨hcode, hcode'⟩⟩

/-- An increment counts one, whatever it started from. -/
theorem outSeq_succ_sub (x y : BitVec 16) : x + 1#16 - x = y + 1#16 - y := by
  rw [add_sub_cancel_left, add_sub_cancel_left]

theorem SameRecord.mono {q : Prop} (h : SameRecord r s s' u u') (hrq : r → q) : SameRecord q s s' u u' :=
  { h with outSeq := h.outSeq.imp id fun ⟨e, hr⟩ => ⟨e, hrq hr⟩ }

/-- One run after the other. -/
theorem SameRecord.trans (h : SameRecord r s s' u u') (h' : SameRecord r s' s'' u' u'') : SameRecord r s s'' u u'' where
  outSeq := by
    rcases h'.outSeq with e' | e'
    · rcases h.outSeq with e | ⟨e, hr⟩
      · exact .inl (by rw [← sub_add_sub_cancel s''.outSeq s'.outSeq, e', e, sub_add_sub_cancel])
      · exact .inr ⟨sub_left_inj.1 (e ▸ e'), hr⟩
    · exact .inr e'
  trace := by
    obtain ⟨a, hs, hu⟩ := h.trace
    obtain ⟨b, hs', hu'⟩ := h'.trace
    exact ⟨a ++ b, by rw [hs', hs, List.append_assoc], by rw [hu', hu, List.append_assoc]⟩
  outcome := by
    rcases h'.outcome with e' | ⟨hk, hk', ht, ht'⟩ | ⟨hk, ht, hk', ht'⟩
    · exact .inl e'
    · rcases h.outcome with ⟨-, e⟩ | ⟨-, -, e, e'⟩ | ⟨-, e, -, e'⟩
      · exact .inl ⟨hk.trans hk'.symm, by rw [ht, ht', e]⟩
      · exact .inr (.inl ⟨hk, hk', ht.trans e, ht'.trans e'⟩)
      · exact .inr (.inl ⟨hk, hk', ht.trans e, ht'.trans e'⟩)
    · rw [hk, hk', ht, ht']
      exact h.outcome
  outCode := by
    rcases h'.outCode with e' | ⟨e, e'⟩
    · exact .inl e'
    · rw [e, e']
      exact h.outCode

/-- One update of two agreeing states: they agree again, and record alike. -/
structure Parallel (r : Prop) (s u s' u' : State) : Prop where
  agree : SameForCycles s' u'
  record : SameRecord r s s' u u'

/-- An update that writes no result register and no event, as its definition shows. -/
theorem Parallel.of_agree (h : SameForCycles s' u') (hs : quiet s s' := by exact ⟨⟨rfl, rfl, rfl, rfl⟩, rfl⟩)
    (hu : quiet u u' := by exact ⟨⟨rfl, rfl, rfl, rfl⟩, rfl⟩) : Parallel r s u s' u' := ⟨h, .of_quiet hs hu⟩

theorem SameForCycles.parallel (h : SameForCycles s u) : Parallel r s u s u := .of_agree h

theorem SameForCycles.running_eq (h : SameForCycles s u) : running s = running u := running_congr h.seq

/-! ## RESET and host instructions -/

/-- RESET writes everything but LAST_T, the trace and the build (70_reset_and_hazards.md R240). -/
theorem SameForCycles.resetEvent (h : SameForCycles s u) (hr : r) : Parallel r s u (resetEvent s) (resetEvent u) where
  agree := ⟨h.params, rfl, rfl, rfl, nofun, nofun, nofun, nofun, nofun, rfl, rfl, rfl, rfl, rfl, rfl, rfl, rfl, h.lastT⟩
  record := ⟨.inr ⟨rfl, hr⟩, ⟨[], by simp⟩, .inl ⟨rfl, rfl⟩, .inl rfl⟩

theorem SameForCycles.startLoop (h : SameForCycles s u) : Parallel r s u (startLoop s) (startLoop u) :=
  .of_agree { h with
    seq := rfl, stopPend := rfl, t0Valid := rfl, t0 := nofun, ws := nofun, ps := nofun, pcount := nofun, pw := nofun
    dbValid := rfl, dbCode := rfl, dbTime := rfl }

theorem SameForCycles.abortLoop (h : SameForCycles s u) : Parallel r s u (abortLoop s) (abortLoop u) where
  agree := { h with
    seq := rfl, stopPend := rfl, t0Valid := rfl, t0 := nofun, ws := nofun, ps := nofun, pcount := nofun, pw := nofun }
  record := ⟨.inl (outSeq_succ_sub _ _), ⟨[], by simp⟩, .inr (.inl ⟨rfl, rfl, rfl, rfl⟩), .inr ⟨rfl, rfl⟩⟩

/-- STATE may move outside a capture, alike in both. -/
theorem SameForCycles.writeSeq (h : SameForCycles s u) {q : Sequencer} (hg : q ≠ .captGap) (hh : q ≠ .captHigh)
    (f g : Bool) : SameForCycles { s with seq := q, initFault := f } { u with seq := q, initFault := g } := by
  have hc : capturing { s with seq := q, initFault := f } ≠ true := by
    rw [Ne, capturing_iff]; exact fun h => h.elim hg hh
  exact { h with
    seq := rfl, ws := fun h => absurd h hc, ps := fun h => absurd h hh, pcount := fun h => absurd h hc
    pw := fun h => absurd h hc }

theorem requestStop_pends (ht : ¬(s.seq = .idleWait ∧ s.t0Valid = false)) (hr : running s = true) :
    requestStop s = { s with stopPend := true } := by
  rw [requestStop, if_neg ht, if_pos hr]

theorem requestStop_ignored (hr : running s ≠ true) : requestStop s = s := by
  rw [requestStop, if_neg fun ht => hr ((running_iff s).2 (.inl ht.1)), if_neg hr]

theorem SameForCycles.requestStop (h : SameForCycles s u) : Parallel r s u (requestStop s) (requestStop u) := by
  by_cases ht : s.seq = .idleWait ∧ s.t0Valid = false
  · rw [requestStop_top ht, requestStop_top (by rwa [← h.seq, ← h.t0Valid])]
    exact .of_agree (h.writeSeq (by simp) (by simp) s.initFault u.initFault)
  by_cases hr : running s = true
  · rw [requestStop_pends ht hr, requestStop_pends (by rwa [← h.seq, ← h.t0Valid]) (by rwa [← h.running_eq])]
    exact .of_agree { h with stopPend := rfl }
  · rw [requestStop_ignored hr, requestStop_ignored (by rwa [← h.running_eq])]
    exact h.parallel

/-- A CFG register is written alike, or the write is dropped alike (44_host_interface.md R182). -/
theorem SameForCycles.cfgWrite (h : SameForCycles s u) (x : CfgReg) (d : Word) :
    Parallel r s u (cfgWrite x d s) (cfgWrite x d u) := by
  rcases cfgWrite_cases s x d with ⟨hq, hs⟩ | ⟨hq, hs⟩ <;> rcases cfgWrite_cases u x d with ⟨hq', hu⟩ | ⟨hq', hu⟩
  · rw [hs, hu, setCfg_eq, setCfg_eq]
    exact .of_agree { h with
      cfgIdle := by rw [h.cfgIdle], cfgWindow := by rw [h.cfgWindow], cfgFloor := by rw [h.cfgFloor]
      cfgThresh := by rw [h.cfgThresh], cfgRefract := by rw [h.cfgRefract] }
  · exact absurd (h.seq ▸ hq) hq'
  · exact absurd (h.seq ▸ hq') hq
  · rw [hs, hu]
    exact .of_agree { h with }

/-- The error flags and the read value are of no account to a cycle. -/
theorem SameForCycles.writeFlags (h : SameForCycles s u) (c c' f f' : Bool) (d d' : Option Word) :
    Parallel r s u { s with cmdErr := c, cfgErr := f, rdata := d } { u with cmdErr := c', cfgErr := f', rdata := d' } :=
  .of_agree { h with }

/-- A host instruction that completes in one of two agreeing states completes in the other, alike. -/
theorem SameForCycles.exec_host (h : SameForCycles s u) (hav : s.inAvail = u.inAvail) {i : Instr}
    (hs : ∀ l t, i ≠ .smp l t) (hx : exec i s = .next s') : ∃ u', exec i u = .next u' ∧ Parallel r s u s' u' := by
  cases i with
  | smp l t => exact absurd rfl (hs l t)
  | rd a => cases hx; exact ⟨_, rfl, h.writeFlags _ _ _ _ _ _⟩
  | nop => cases hx; exact ⟨_, rfl, h.parallel⟩
  | wrIgnored a d => cases hx; exact ⟨_, rfl, h.parallel⟩
  | clrerr => cases hx; exact ⟨_, rfl, h.writeFlags _ _ _ _ _ _⟩
  | cmdReserved d => cases hx; exact ⟨_, rfl, h.writeFlags _ _ _ _ _ _⟩
  | stop => cases hx; exact ⟨_, rfl, h.requestStop⟩
  | abort =>
    cases hx
    refine ⟨_, rfl, ?_⟩
    rw [h.running_eq]
    split
    · exact h.abortLoop
    · exact h.parallel
  | start =>
    cases hx
    refine ⟨_, rfl, ?_⟩
    by_cases hq : s.seq = .stopped
    · rw [if_pos hq, if_pos (h.seq.symm.trans hq), hav]
      split
      · exact h.startLoop
      · exact .of_agree (h.writeSeq (by simp) (by simp) true true)
    · rw [if_neg hq, if_neg fun hq' => hq (h.seq.trans hq')]
      exact h.writeFlags _ _ _ _ _ _
  | wrCfgIdle d | wrCfgWindow d | wrCfgFloor d | wrCfgThresh d | wrCfgRefract d =>
    cases hx; exact ⟨_, rfl, h.cfgWrite _ d⟩

/-! ## Samples -/

/-- Both cycles end with the same outcome at the same time (40_cycle_fsm.md R107). -/
theorem SameForCycles.finish (h : SameForCycles s u) (k : OutKind) (t : Time) :
    Parallel r s u (finish k t s) (finish k t u) where
  agree :=
    have hc (v : State) : capturing (Machine.finish k t v) ≠ true := by
      cases hp : v.stopPend <;> simp [capturing, Machine.finish, hp]
    have hh (v : State) : (Machine.finish k t v).seq ≠ .captHigh := fun hq => hc v ((capturing_iff _).2 (.inr hq))
    { h with
      seq := by rw [Machine.finish, Machine.finish, h.stopPend]
      stopPend := rfl, t0Valid := rfl, t0 := nofun
      ws := fun hq => absurd hq (hc s), ps := fun hq => absurd hq (hh s), pcount := fun hq => absurd hq (hc s)
      pw := fun hq => absurd hq (hc s) }
  record := ⟨.inl (outSeq_succ_sub _ _), ⟨[], by simp⟩, .inl ⟨rfl, rfl⟩, .inr ⟨rfl, rfl⟩⟩

/-- One update after another. -/
theorem Parallel.trans (h : Parallel r s u s' u') (h' : Parallel r s' u' s'' u'') : Parallel r s u s'' u'' :=
  ⟨h'.agree, h.record.trans h'.record⟩

theorem SameForCycles.suppress_eq (h : SameForCycles s u) (code : Word) (t : Time) :
    suppress code t s = suppress code t u := by
  unfold suppress
  rw [h.dbValid, h.dbCode, h.dbTime, h.cfgRefract]

theorem SameForCycles.debounceStep (h : SameForCycles s u) (code : Word) (t : Time) :
    Parallel r s u (debounceStep code t s) (debounceStep code t u) := by
  have hcode : Parallel r s u { s with outCode := code } { u with outCode := code } :=
    ⟨{ h with }, .inl (by simp), ⟨[], by simp⟩, .inr (.inr ⟨rfl, rfl, rfl, rfl⟩), .inl rfl⟩
  unfold Machine.debounceStep
  rw [h.suppress_eq]
  split
  · exact hcode.trans (hcode.agree.finish .suppressed t)
  · have hemit : Parallel r { s with outCode := code } { u with outCode := code }
        (emit code t (recordAcceptance code t { s with outCode := code }))
        (emit code t (recordAcceptance code t { u with outCode := code })) :=
      ⟨{ hcode.agree with dbValid := rfl, dbCode := rfl, dbTime := rfl },
        .inl (by simp), ⟨[⟨code, t⟩], rfl, rfl⟩, .inr (.inr ⟨rfl, rfl, rfl, rfl⟩), .inr ⟨rfl, rfl⟩⟩
    exact hcode.trans (hemit.trans (hemit.agree.finish .accepted t))

theorem SameForCycles.slot_eq (h : SameForCycles s u) (hc : capturing s = true) (i : Nat) : slot s i = slot u i := by
  rw [Machine.slot_eq, Machine.slot_eq, h.pw hc]

/-- The code is read from the capture store, N_LEADER and CFG_THRESH (42_decoder.md R141, R142). -/
theorem SameForCycles.assemble_eq (h : SameForCycles s u) (hc : capturing s = true) : assemble s = assemble u := by
  have hbit : dataBit s = dataBit u := by
    funext j
    rw [dataBit, dataBit, h.slot_eq hc, h.cfgThresh, h.params]
  unfold assemble
  rw [hbit]

theorem SameForCycles.closeWindow (h : SameForCycles s u) (hc : capturing s = true) (t : Time) :
    Parallel r s u (closeWindow t s) (closeWindow t u) := by
  unfold Machine.closeWindow decodeStep
  have hsuf : sufficient s = sufficient u := by rw [sufficient, sufficient, h.params, h.pcount hc]
  rw [hsuf, h.assemble_eq hc]
  split
  · exact h.debounceStep _ t
  · exact h.finish .insufficient t

theorem SameForCycles.recordPulse (h : SameForCycles s u) (hc : capturing s = true) (d : Nat) :
    Parallel r s u (recordPulse d s) (recordPulse d u) := by
  by_cases hd : s.cfgFloor.toNat < (sat32 d).toNat
  · rw [recordPulse_kept s hd, recordPulse_kept u (h.cfgFloor ▸ hd)]
    exact .of_agree { h with
      pcount := fun _ => by rw [h.pcount hc]
      pw := fun _ => by rw [h.params, h.pcount hc, h.pw hc] }
  · rw [recordPulse_dropped s (not_lt.1 hd), recordPulse_dropped u (h.cfgFloor ▸ not_lt.1 hd)]
    exact h.parallel

theorem SameForCycles.startIdleWait (h : SameForCycles s u) (t : Time) :
    Parallel r s u (startIdleWait t s) (startIdleWait t u) := by
  rw [startIdleWait_eq, startIdleWait_eq]
  refine .of_agree { h with t0Valid := rfl, t0 := fun _ => ?_ }
  by_cases hv : s.t0Valid = true
  · rw [if_pos hv, if_pos (h.t0Valid ▸ hv), h.t0 hv]
  · rw [if_neg hv, if_neg (h.t0Valid ▸ hv)]

theorem SameForCycles.confirmIdle (h : SameForCycles s u) (t : Time) : Parallel r s u (confirmIdle t s) (confirmIdle t u) :=
  .of_agree { h with
    seq := rfl, ws := fun _ => rfl, ps := nofun, pcount := fun _ => rfl
    pw := fun _ => congrArg clearedSlots h.params }

theorem SameForCycles.idleWaitSample (h : SameForCycles s u) (l : Bool) (t : Time) :
    Parallel r s u (idleWaitSample l t s) (idleWaitSample l t u) := by
  have h1 : Parallel r s u (Machine.startIdleWait t s) (Machine.startIdleWait t u) := h.startIdleWait t
  have hv : (Machine.startIdleWait t s).t0Valid = true := by rw [startIdleWait_eq]
  refine h1.trans ?_
  unfold Machine.idleWaitSample
  dsimp only
  rw [h1.agree.t0 hv, h1.agree.cfgIdle]
  split
  · exact h1.agree.confirmIdle t
  · split
    · exact h1.agree.finish .noSignal t
    · exact h1.agree.parallel

/-- The level of an open window changes alike. -/
theorem SameForCycles.moveInCapture (h : SameForCycles s u) (hc : capturing s = true) (q : Sequencer) {p p' : Time}
    (hp : q = .captHigh → p = p') : Parallel r s u { s with seq := q, ps := p } { u with seq := q, ps := p' } :=
  .of_agree { h with
    seq := rfl, ws := fun _ => h.ws hc, ps := hp, pcount := fun _ => h.pcount hc, pw := fun _ => h.pw hc }

theorem SameForCycles.onSample_gap (h : SameForCycles s u) (hq : s.seq = .captGap) (l : Bool) (t : Time) :
    Parallel r s u (onSample l t s) (onSample l t u) := by
  have hc : capturing s = true := (capturing_iff s).2 (.inl hq)
  have hq' : u.seq = .captGap := h.seq ▸ hq
  rcases Nat.lt_or_ge (t.toNat - s.ws.toNat) s.cfgWindow.toNat with ht | ht
  · rw [onSample_gap_inside l hq ht, onSample_gap_inside l hq' (by rwa [← h.ws hc, ← h.cfgWindow])]
    cases l with
    | true => exact h.moveInCapture hc .captHigh fun _ => rfl
    | false => exact h.parallel
  · rw [onSample_gap_end l hq ht, onSample_gap_end l hq' (by rwa [← h.ws hc, ← h.cfgWindow])]
    exact h.closeWindow hc t

theorem SameForCycles.onSample_high (h : SameForCycles s u) (hq : s.seq = .captHigh) (l : Bool) (t : Time) :
    Parallel r s u (onSample l t s) (onSample l t u) := by
  have hc : capturing s = true := (capturing_iff s).2 (.inr hq)
  have hq' : u.seq = .captHigh := h.seq ▸ hq
  have hrec : Parallel r s u (Machine.recordPulse (since s.ps t) s) (Machine.recordPulse (since u.ps t) u) :=
    h.ps hq ▸ h.recordPulse hc _
  have hc' : capturing (Machine.recordPulse (since s.ps t) s) = true := by rw [recordPulse_eq]; exact hc
  rcases Nat.lt_or_ge (t.toNat - s.ws.toNat) s.cfgWindow.toNat with ht | ht
  · rw [onSample_high_inside l hq ht, onSample_high_inside l hq' (by rwa [← h.ws hc, ← h.cfgWindow])]
    cases l with
    | true => exact h.parallel
    | false => exact hrec.trans (hrec.agree.moveInCapture hc' .captGap nofun)
  · rw [onSample_high_end l hq ht, onSample_high_end l hq' (by rwa [← h.ws hc, ← h.cfgWindow])]
    exact hrec.trans (hrec.agree.closeWindow hc' t)

theorem SameForCycles.onSample (h : SameForCycles s u) (l : Bool) (t : Time) :
    Parallel r s u (onSample l t s) (onSample l t u) := by
  cases hq : s.seq with
  | stopped | fault =>
    simp only [Machine.onSample, ← h.seq, hq]
    exact h.parallel
  | idleWait =>
    simp only [Machine.onSample, ← h.seq, hq]
    exact h.idleWaitSample l t
  | captGap => exact h.onSample_gap hq l t
  | captHigh => exact h.onSample_high hq l t

/-! ## Runs -/

theorem SameForCycles.receive (h : SameForCycles s u) (av : Bool) (p q : List Arrival) :
    SameForCycles (receive av p s) (receive av q u) := { h with }

/-- Taking the arrival and, for a sample, writing LAST_T records nothing. -/
theorem Parallel.of_receive {av : Bool} {p q : List Arrival} {x y : Option Time}
    (h : Parallel r { receive av p s with lastT := x } { receive av q u with lastT := y } s' u') : Parallel r s u s' u' :=
  ⟨h.agree, { h.record with }⟩

/-- An event that has a step in one of two agreeing states has one in the other, alike. -/
theorem SameForCycles.arrive (h : SameForCycles s u) {a : Arrival} (ha : arrive a s = .next s') :
    ∃ u', arrive a u = .next u' ∧ Parallel (a.event = .reset) s u s' u' := by
  have taken := h.receive a.inAvail s.pending u.pending
  cases he : a.event with
  | reset =>
    rw [arrive_reset s he] at ha
    cases ha
    exact ⟨_, arrive_reset u he, .of_receive (taken.resetEvent rfl)⟩
  | word w =>
    rw [arrive_word s he] at ha
    rw [arrive_word u he]
    by_cases hs : ∃ l t, decodeWire w = .smp l t
    · obtain ⟨l, t, hd⟩ := hs
      rw [hd] at ha ⊢
      obtain ⟨ho, rfl⟩ := exec_smp_next ha
      have hu : lastTime (Machine.receive a.inAvail u.pending u) ≤ t.toNat := lastTime_congr taken.lastT.symm ▸ ho
      rw [exec_smp_eq, if_pos hu]
      have agree : SameForCycles (takeSample a t s) (takeSample a t u) := { taken with lastT := rfl }
      exact ⟨_, rfl, .of_receive (agree.onSample l t)⟩
    · obtain ⟨u', hu, hp⟩ := taken.exec_host rfl (fun l t e => hs ⟨l, t, e⟩) ha
      exact ⟨u', hu, .of_receive hp⟩

/-- Agreeing states run alike, by induction on the events. -/
theorem SameForCycles.eventRun {es : List Arrival} (h : SameForCycles s u) (hrun : eventRun es s = some s') :
    ∃ u', eventRun es u = some u' ∧ Parallel (∃ a ∈ es, a.event = .reset) s u s' u' := by
  induction es generalizing s u with
  | nil => cases hrun; exact ⟨u, rfl, h.parallel⟩
  | cons a es ih =>
    rw [Machine.eventRun] at hrun
    split at hrun
    · rename_i s1 ha
      obtain ⟨u1, hu1, h1⟩ := h.arrive ha
      obtain ⟨u', hu', h'⟩ := ih h1.agree hrun
      refine ⟨u', (eventRun_cons u hu1 es).trans hu', h'.agree,
        (h1.record.mono fun he => ?_).trans (h'.record.mono fun he => ?_)⟩
      · exact ⟨a, List.mem_cons_self, he⟩
      · obtain ⟨b, hb, he⟩ := he
        exact ⟨b, List.mem_cons_of_mem _ hb, he⟩
    · cases hrun
    · cases hrun

/-- Settles O47, from the parallel run. -/
theorem cyclesAreIndependent : Obligations.CyclesAreIndependent := by
  intro es s u s' h hrun
  obtain ⟨u', hu, hagree, hseq, htrace, hout, hcode⟩ := h.eventRun hrun
  exact ⟨u', hu, hagree, hseq, htrace, hout, hcode⟩

end Sys2Proof.Machine

/-! # The pulse store at a window's end (O45) -/

namespace Sys2Proof.Machine

variable {s u v : State}

theorem sameCfg.trans (h : sameCfg s u) (h' : sameCfg u v) : sameCfg s v := by
  obtain ⟨hi, hw, hf, ht, hr⟩ := h
  obtain ⟨hi', hw', hf', ht', hr'⟩ := h'
  exact ⟨hi'.trans hi, hw'.trans hw, hf'.trans hf, ht'.trans ht, hr'.trans hr⟩

/-- Slots read PW only. -/
theorem slot_congr (h : u.pw = s.pw) (i : Nat) : slot u i = slot s i := by
  rw [slot_eq, slot_eq, h]

/-- Settles O45: the window's end leaves the pulse store as the window recorded it, and ends the cycle. -/
theorem captureStoresPulseSequence : Obligations.CaptureStoresPulseSequence := by
  intro s first last tc0 tc lc es hq hfirst hlast hk hl ho hin hend
  obtain ⟨v, hrun, h⟩ := exists_recorded_window hq hfirst hlast hk hl ho hin hend
  obtain ⟨-, hcount, hslots⟩ := h.holds
  obtain ⟨-, hpcount, hpw, -, hws, -, -, -, -, htime, hseq⟩ := closeWindow_frame v tc
  refine ⟨_, hrun, ?_, fun i hi => ?_, hws.trans h.ws, htime, ?_, ?_, ?_⟩
  · rw [hpcount, hcount]
  · rw [slot_congr hpw, hslots i (by rwa [h.params])]
  · rw [hseq, h.outSeq]
  · exact h.cfg.trans (closeWindow_keepsCfg v.pw v.pcount tc)
  · rw [closeWindow_seq, afterFinish, h.stopPend]

end Sys2Proof.Machine

/-! # What a recorded pulse writes (O31) -/

namespace Sys2Proof.Machine

variable {s : State} {d : Nat}

/-- A kept pulse leaves every slot but the one that PCOUNT points to (41_acquirer.md R125). -/
theorem slot_recordPulse_of_ne (h : s.cfgFloor.toNat < (sat32 d).toNat) {i : Nat} (hi : i ≠ s.pcount.toNat) :
    slot (recordPulse d s) i = slot s i := by
  rw [recordPulse_kept s h]
  simp only [slot_eq, List.getD_eq_getElem?_getD]
  split
  · rw [List.getElem?_set_ne hi.symm]
  · rfl

/-- A kept pulse stands in the slot that PCOUNT pointed to, if that is one of the S slots (41_acquirer.md R125). -/
theorem slot_recordPulse_pcount (h : s.cfgFloor.toNat < (sat32 d).toNat) (hl : s.pw.length = s.params.slots)
    (hp : s.pcount.toNat < s.params.slots) : slot (recordPulse d s) s.pcount.toNat = sat32 d := by
  rw [recordPulse_kept s h]
  simp only [slot_eq, List.getD_eq_getElem?_getD, if_pos hp]
  rw [List.getElem?_set_self (hl ▸ hp), Option.getD_some]

theorem pcount_recordPulse (h : s.cfgFloor.toNat < (sat32 d).toNat) :
    (recordPulse d s).pcount = sat16 (s.pcount.toNat + 1) := by
  rw [recordPulse_kept s h]

/-- No pulse changes the number of slots. -/
theorem length_pw_recordPulse (d : Nat) (s : State) : (recordPulse d s).pw.length = s.pw.length := by
  unfold recordPulse
  split
  · dsimp only
    split
    · exact List.length_set
    · rfl
  · rfl

/-- Settles O31, from the two cases of RecordPulse. -/
theorem recordPulseEffect : Obligations.RecordPulseEffect := by
  intro s d hl
  rw [← sat32_toNat]
  refine ⟨recordPulse_dropped s, fun h => ⟨?_, fun i _ => slot_recordPulse_of_ne h, fun hp => ?_, ?_, ?_⟩⟩
  · rw [pcount_recordPulse h, sat16_toNat]
  · rw [slot_recordPulse_pcount h hl hp]
  · rw [length_pw_recordPulse, hl]
  · rw [recordPulse_eq]

end Sys2Proof.Machine

/-! # The sample of each running state (O28, O29, O30) -/

namespace Sys2Proof.Machine

variable {s : State} {t : Time}

/-- A sample that is in order, as the statements write it, completes as its dispatch (40_cycle_fsm.md R106). -/
theorem exec_smp_inOrder (l : Bool) (ho : ∀ u, s.lastT = some u → u.toNat ≤ t.toNat) :
    exec (.smp l t) s = .next (onSample l t { s with lastT := some t }) := by
  rw [exec_smp_eq, if_pos ((lastTime_le_iff s t).2 ho)]

/-- A low sample confirms the idle level, with no look at the timeout (41_acquirer.md R121). -/
theorem onSample_idleWait_low (hq : s.seq = .idleWait) : onSample false t s = confirmIdle t (startIdleWait t s) := by
  rw [onSample, hq]; rfl

/-- A high sample times out once CFG_IDLE has elapsed since T0 (41_acquirer.md R122). -/
theorem onSample_idleWait_high (hq : s.seq = .idleWait) :
    onSample true t s =
      if s.cfgIdle.toNat ≤ t.toNat - (startIdleWait t s).t0.toNat then finish .noSignal t (startIdleWait t s)
      else startIdleWait t s := by
  have hc : (startIdleWait t s).cfgIdle = s.cfgIdle := by rw [startIdleWait_eq]
  rw [onSample, hq]
  simp only [idleWaitSample, hc, elapsed_iff, Bool.not_true, Bool.false_eq_true, if_false]

/-- Settles O28: a low sample, a high one at the timeout or later, and a high one before it. -/
theorem idleWaitSampleEffect : Obligations.IdleWaitSampleEffect := by
  intro s l t hq ho
  rw [exec_smp_inOrder l ho]
  cases l with
  | false => rw [if_pos rfl, onSample_idleWait_low (s := { s with lastT := some t }) hq, startIdleWait_eq]; rfl
  | true =>
    rw [if_neg Bool.false_ne_true.symm, onSample_idleWait_high (s := { s with lastT := some t }) hq, startIdleWait_eq]
    rfl

/-- Settles O29: the window's end comes before the level. -/
theorem gapSampleEffect : Obligations.GapSampleEffect := by
  intro s l t hq ho
  rw [exec_smp_inOrder l ho]
  by_cases hend : s.cfgWindow.toNat ≤ t.toNat - s.ws.toNat
  · rw [if_pos hend, onSample_gap_end (s := { s with lastT := some t }) l hq hend]
  · rw [if_neg hend, onSample_gap_inside (s := { s with lastT := some t }) l hq (not_le.1 hend)]

/-- Settles O30: the window's end comes before the level, and the pulse is recorded before the window closes. -/
theorem highSampleEffect : Obligations.HighSampleEffect := by
  intro s l t hq ho
  rw [exec_smp_inOrder l ho]
  by_cases hend : s.cfgWindow.toNat ≤ t.toNat - s.ws.toNat
  · rw [if_pos hend, onSample_high_end (s := { s with lastT := some t }) l hq hend]; rfl
  · rw [if_neg hend, onSample_high_inside (s := { s with lastT := some t }) l hq (not_le.1 hend)]; rfl

end Sys2Proof.Machine

/-! # The decoder: the three outcomes of a window, the bits of its code, and what it reads (O32, O33, O34) -/

namespace Sys2Proof.Machine

variable {s u : State} {t : Time}

/-! ## One equation per outcome -/

/-- The sufficiency test as a comparison of numbers (42_decoder.md R140). -/
theorem sufficient_iff_slots_le : sufficient s = true ↔ s.params.slots ≤ s.pcount.toNat := decide_eq_true_iff

theorem closeWindow_insufficient (h : s.pcount.toNat < s.params.slots) : closeWindow t s = finish .insufficient t s :=
  if_neg (sufficient_iff_slots_le.not.2 (not_le.2 h))

theorem closeWindow_sufficient (h : ¬ s.pcount.toNat < s.params.slots) :
    closeWindow t s = debounceStep (assemble s) t s :=
  if_pos (sufficient_iff_slots_le.2 (not_lt.1 h))

theorem closeWindow_suppressed (h : ¬ s.pcount.toNat < s.params.slots) (hs : suppress (assemble s) t s = true) :
    closeWindow t s = finish .suppressed t { s with outCode := assemble s } := by
  rw [closeWindow_sufficient h, debounceStep, if_pos hs]

theorem closeWindow_accepted (h : ¬ s.pcount.toNat < s.params.slots) (hs : ¬ suppress (assemble s) t s = true) :
    closeWindow t s =
      finish .accepted t (emit (assemble s) t (recordAcceptance (assemble s) t { s with outCode := assemble s })) := by
  rw [closeWindow_sufficient h, debounceStep, if_neg hs]

/-- Settles O32: too few pulses, the last accepted code again inside the refractory period, and any other code. -/
theorem windowCloseOutcome : Obligations.WindowCloseOutcome := by
  intro s t
  by_cases h : s.pcount.toNat < s.params.slots
  · rw [closeWindow_insufficient h]
    exact (if_pos h).symm
  refine .trans ?_ (if_neg h).symm
  by_cases hs : suppress (assemble s) t s = true
  · rw [closeWindow_suppressed h hs, if_pos ((suppress_iff s _ t).1 hs)]; rfl
  · rw [closeWindow_accepted h hs, if_neg (hs ∘ (suppress_iff s _ t).2)]; rfl

/-- Settles O33: each bit of the code is the classification of its data pulse. -/
theorem assembledCodeBits : Obligations.AssembledCodeBits := by
  intro s j hj
  rw [assemble_getLsbD s hj, dataBit_iff]

/-! ## What the decoder reads -/

/-- The code is read from N_LEADER, CFG_THRESH and the 32 data slots only (42_decoder.md R142, R144). -/
theorem assemble_congr (hp : s.params = u.params) (hthresh : s.cfgThresh = u.cfgThresh)
    (hslot : ∀ j, j < 32 → slot s (s.params.nLeader.val + j) = slot u (s.params.nLeader.val + j)) :
    assemble s = assemble u := by
  refine BitVec.eq_of_getMsbD_eq fun j hj => ?_
  rw [BitVec.getMsbD, BitVec.getMsbD, assemble_getLsbD s hj, assemble_getLsbD u hj, dataBit, dataBit,
    hslot j hj, hthresh, hp]

/-- The comparator reads CFG_REFRACT and the debounce state only (43_debounce.md R160). -/
theorem suppress_congr (hrefract : s.cfgRefract = u.cfgRefract) (hv : s.dbValid = u.dbValid) (hc : s.dbCode = u.dbCode)
    (ht : s.dbTime = u.dbTime) (code : Word) (t : Time) : suppress code t s = suppress code t u := by
  rw [suppress, suppress, hrefract, hv, hc, ht]

/-- Settles O34: equal answers of the sufficiency test, the assembly and the comparator give equal outcomes. -/
theorem decoderReadsDataSlotsOnly : Obligations.DecoderReadsDataSlotsOnly := by
  intro s u t hp hcount hthresh hrefract hv hc ht hslot
  have hcode : assemble s = assemble u := assemble_congr hp hthresh hslot
  have hsup : suppress (assemble s) t s = suppress (assemble u) t u := by
    rw [hcode, suppress_congr hrefract hv hc ht]
  by_cases h : s.pcount.toNat < s.params.slots
  · rw [closeWindow_insufficient h, closeWindow_insufficient (hcount.1 h)]
    exact ⟨rfl, ⟨fun _ => h, fun _ => rfl⟩, fun hn => absurd rfl hn, [], by simp⟩
  have hu : ¬ u.pcount.toNat < u.params.slots := fun hlt => h (hcount.2 hlt)
  by_cases hs : suppress (assemble s) t s = true
  · rw [closeWindow_suppressed h hs, closeWindow_suppressed hu (hsup ▸ hs)]
    exact ⟨rfl, ⟨nofun, fun hlt => absurd hlt h⟩, fun _ => hcode, [], by simp⟩
  · rw [closeWindow_accepted h hs, closeWindow_accepted hu (hsup ▸ hs), ← hcode]
    exact ⟨rfl, ⟨nofun, fun hlt => absurd hlt h⟩, fun _ => rfl, [⟨assemble s, t⟩], rfl, rfl⟩

end Sys2Proof.Machine

/-! # The debounce comparator: codes inside and outside the refractory period (O35, O44) -/

namespace Sys2Proof.Machine

variable {s u : State} {code : Word} {t : Time}

/-! ## One equation per outcome -/

theorem debounceStep_suppressed (h : suppress code t s = true) :
    debounceStep code t s = finish .suppressed t { s with outCode := code } :=
  if_pos h

theorem debounceStep_accepted (h : ¬ suppress code t s = true) :
    debounceStep code t s = finish .accepted t (emit code t (recordAcceptance code t { s with outCode := code })) :=
  if_neg h

theorem debounceStep_records_accepted (h : ¬ suppress code t s = true) :
    (debounceStep code t s).outKind = .accepted ∧ (debounceStep code t s).dbCode = code ∧
    (debounceStep code t s).dbTime = t ∧ (debounceStep code t s).trace = s.trace ++ [⟨code, t⟩] := by
  rw [debounceStep_accepted h]
  exact ⟨rfl, rfl, rfl, rfl⟩

/-- From CFG_REFRACT after the last acceptance on, no code is suppressed (43_debounce.md R160). -/
theorem not_suppress_of_refract_le (h : s.cfgRefract.toNat ≤ t.toNat - s.dbTime.toNat) : ¬ suppress code t s = true :=
  fun hs => not_lt.2 h ((suppress_iff s code t).1 hs).2.2

/-- A code other than the last accepted one is never suppressed (43_debounce.md R160). -/
theorem not_suppress_of_ne (h : s.dbCode ≠ code) : ¬ suppress code t s = true :=
  fun hs => h ((suppress_iff s code t).1 hs).2.1

/-! ## A code decoded again and again -/

/-- The last acceptance, as the comparator reads it and the consumer saw it, is as it was (43_debounce.md R164). -/
def sameAcceptance (s u : State) : Prop :=
  sameDebounce s u ∧ u.evtCount = s.evtCount ∧ u.trace = s.trace ∧ u.cfgRefract = s.cfgRefract

/-- After the same acceptance the comparator answers the same. -/
theorem sameAcceptance.suppress_eq (h : sameAcceptance s u) (code : Word) (t : Time) :
    suppress code t u = suppress code t s := by
  obtain ⟨⟨hv, hc, ht⟩, -, -, hrefract⟩ := h
  exact suppress_congr hrefract hv hc ht code t

/-- `DebounceStep(code, ·)` at each of the times `ts`, in their order. -/
def decodeAgain (code : Word) (ts : List Time) (s : State) : State := ts.foldl (fun q u => debounceStep code u q) s

theorem decodeAgain_concat (code : Word) (ts : List Time) (t : Time) (s : State) :
    decodeAgain code (ts ++ [t]) s = debounceStep code t (decodeAgain code ts s) :=
  List.foldl_concat ..

/-- Decodes that the comparator suppresses in the first state are suppressed one after the other, because none of them
moves the acceptance it reads (43_debounce.md R164). -/
theorem decodeAgain_suppressed {ts : List Time} (h : ∀ u ∈ ts, suppress code u s = true) :
    sameAcceptance s (decodeAgain code ts s) ∧ (ts ≠ [] → (decodeAgain code ts s).outKind = .suppressed) := by
  induction ts using List.reverseRecOn with
  | nil => exact ⟨⟨⟨rfl, rfl, rfl⟩, rfl, rfl, rfl⟩, fun hne => absurd rfl hne⟩
  | append_singleton ts t ih =>
    obtain ⟨hsame, -⟩ := ih fun u hu => h u (List.mem_append_left [t] hu)
    have hsup := hsame.suppress_eq code t ▸ h t (by simp)
    rw [decodeAgain_concat, debounceStep_suppressed hsup]
    exact ⟨hsame, fun _ => rfl⟩

/-- Settles O35: the comparator answers after the suppressed decodes as before them. -/
theorem leadingEdgeDebounce : Obligations.LeadingEdgeDebounce := by
  intro s code ts t hv hc hts
  obtain ⟨hsame, hkind⟩ := decodeAgain_suppressed fun u hu => (suppress_iff s code u).2 ⟨hv, hc, hts u hu⟩
  have hsup := hsame.suppress_eq
  obtain ⟨⟨hv', hc', ht'⟩, hcount, htrace, -⟩ := hsame
  refine ⟨⟨hv'.trans hv, hc'.trans hc, ht', hcount, htrace⟩, hkind, fun hend => ?_, fun c hne => ?_⟩
  · obtain ⟨hacc, -, htime, hemit⟩ := debounceStep_records_accepted (hsup code t ▸ not_suppress_of_refract_le hend)
    exact ⟨hacc, htime, htrace ▸ hemit⟩
  · obtain ⟨hacc, hcode, htime, -⟩ := debounceStep_records_accepted (hsup c t ▸ not_suppress_of_ne (hc ▸ hne.symm))
    exact ⟨hacc, hcode, htime⟩

/-! ## Windows that follow one another -/

/-- A window that closes outside the refractory period suppresses nothing (42_decoder.md R143). -/
theorem closeWindow_not_suppressed (h : s.cfgRefract.toNat ≤ t.toNat - s.dbTime.toNat) :
    (closeWindow t s).outKind = .accepted ∨ (closeWindow t s).outKind = .insufficient := by
  by_cases hp : s.pcount.toNat < s.params.slots
  · rw [closeWindow_insufficient hp]; exact .inr rfl
  · rw [closeWindow_accepted hp (not_suppress_of_refract_le h)]; exact .inl rfl

/-- A sample of a window records an outcome only by closing it, CFG_WINDOW or more after it opened
(41_acquirer.md R123, R124). -/
theorem onSample_closes {l : Bool} (hc : capturing s = true) (h : (onSample l t s).outSeq ≠ s.outSeq) :
    s.cfgWindow.toNat ≤ t.toNat - s.ws.toNat ∧
      ∃ pw n, onSample l t s = closeWindow t { s with pw := pw, pcount := n } := by
  rcases onSample_capturing s l t hc with ⟨hend, r, rfl | rfl, hr⟩ | ⟨-, -, -, -, hseq, -⟩
  · exact ⟨hend, r.pw, r.pcount, hr⟩
  · exact ⟨hend, _, _, recordPulse_eq s _ ▸ hr⟩
  · exact absurd hseq h

/-- Settles O44: the window opened after the last outcome and the last acceptance, and closes CFG_WINDOW after that. -/
theorem noSuppressionWithinWindow : Obligations.NoSuppressionWithinWindow := by
  intro s t l u hcoh hc hex hseq
  obtain ⟨hlast, rfl⟩ := exec_smp_next hex
  have hws := hcoh.ws_past
  have hout := hcoh.out_ws hc
  have hdb := hcoh.db_ws hc
  obtain ⟨hend, pw, n, hclose⟩ := onSample_closes (s := { s with lastT := some u }) hc hseq
  dsimp only at hend
  rw [hclose]
  constructor
  · obtain ⟨-, htime, -⟩ := closeWindow_recordsOutcome { s with lastT := some u, pw := pw, pcount := n } u
    rw [htime]
    omega
  · intro hle
    refine closeWindow_not_suppressed ?_
    dsimp only
    omega

end Sys2Proof.Machine

/-! # The host interface: the value of every register (O11, O12) -/

namespace Sys2Proof.Machine

variable (s : State)

/-! ## Fields of a register, as numbers -/

/-- A field above the bits that a word uses adds to it. -/
theorem or_shiftLeft_toNat {x y : Word} {i : Nat} (hx : x.toNat < 2 ^ i) (hy : 2 ^ i * y.toNat < 2 ^ 32) :
    (x ||| y <<< i).toNat = x.toNat + 2 ^ i * y.toNat := by
  rw [BitVec.toNat_or, BitVec.toNat_shiftLeft, Nat.shiftLeft_eq_mul_pow, Nat.mul_comm, Nat.mod_eq_of_lt hy, Nat.or_comm,
    ← Nat.two_pow_add_eq_or_of_lt hx, Nat.add_comm]

/-- A 1-bit field above the bits that a word uses adds its power of two. -/
theorem or_bitAt_toNat {x : Word} {n i : Nat} (hx : x.toNat = n) (hn : n < 2 ^ i) (hi : i < 32) (b : Bool) :
    (x ||| bitAt i b).toNat = n + 2 ^ i * b.toNat := by
  have hb : ((BitVec.ofBool b).setWidth 32).toNat = b.toNat := by cases b <;> rfl
  have hy : 2 ^ i * b.toNat < 2 ^ 32 := calc
    2 ^ i * b.toNat ≤ 2 ^ i * 1 := Nat.mul_le_mul_left _ b.toNat_le
    _ < 2 ^ 32 := by rw [Nat.mul_one]; exact Nat.pow_lt_pow_right (by decide) hi
  rw [bitAt, or_shiftLeft_toNat (hx ▸ hn) (hb ▸ hy), hx, hb]

/-- STATUS as the sum of its fields (10_state.md R42). -/
theorem statusWord_toNat : (statusWord s).toNat = (seqCode s.seq).toNat + 2 ^ 3 * (running s).toNat +
    2 ^ 4 * s.stopPend.toNat + 2 ^ 8 * s.cmdErr.toNat + 2 ^ 9 * s.cfgErr.toNat + 2 ^ 10 * s.initFault.toNat := by
  have hseq : (seqCode s.seq).toNat < 8 := by cases s.seq <;> decide
  have hrun := (running s).toNat_le
  have hstop := s.stopPend.toNat_le
  have hcmd := s.cmdErr.toNat_le
  have hcfg := s.cfgErr.toNat_le
  have h3 := or_bitAt_toNat (i := 3) rfl (by omega) (by decide) (running s)
  have h4 := or_bitAt_toNat (i := 4) h3 (by omega) (by decide) s.stopPend
  have h8 := or_bitAt_toNat (i := 8) h4 (by omega) (by decide) s.cmdErr
  have h9 := or_bitAt_toNat (i := 9) h8 (by omega) (by decide) s.cfgErr
  exact or_bitAt_toNat (i := 10) h9 (by omega) (by decide) s.initFault

/-- RESULT as the sum of its fields (10_state.md R43). -/
theorem resultWord_toNat : (resultWord s).toNat = (outKindCode s.outKind).toNat + 2 ^ 16 * s.outSeq.toNat := by
  have hkind : (outKindCode s.outKind).toNat < 2 ^ 16 := by cases s.outKind <;> decide
  have hseq : (s.outSeq.setWidth 32).toNat = s.outSeq.toNat := BitVec.toNat_setWidth_of_le (by decide)
  have hlt := s.outSeq.isLt
  rw [resultWord, or_shiftLeft_toNat hkind (by omega), hseq]

/-- PARAM as the sum of its fields (10_state.md R44). -/
theorem paramWord_toNat (p : Config.Params) : (paramWord p).toNat = p.nLeader.val + 2 ^ 8 * 32 + 2 ^ 16 * p.slots := by
  have hlead := p.nLeader.isLt
  have hslots := (slots_bounds p).2
  have lead : (BitVec.ofNat 32 p.nLeader.val).toNat = p.nLeader.val := Nat.mod_eq_of_lt (by omega)
  have slots : (BitVec.ofNat 32 p.slots).toNat = p.slots := Nat.mod_eq_of_lt (by omega)
  have low : (BitVec.ofNat 32 p.nLeader.val ||| BitVec.ofNat 32 Config.nData <<< 8).toNat = p.nLeader.val + 2 ^ 8 * 32 := by
    rw [or_shiftLeft_toNat (by omega) (by decide), lead]; rfl
  rw [paramWord, or_shiftLeft_toNat (by omega) (by omega), low, slots]

/-- The low half of a time (20_memory.md R52). -/
theorem time_low_toNat (t : Time) : (t.extractLsb' 0 32).toNat = t.toNat % 2 ^ 32 := by
  rw [BitVec.extractLsb'_toNat, Nat.shiftRight_zero]

/-- The high half of a time (20_memory.md R52). -/
theorem time_high_toNat (t : Time) : (t.extractLsb' 32 32).toNat = t.toNat / 2 ^ 32 := by
  rw [BitVec.extractLsb'_toNat, Nat.shiftRight_eq_div_pow]
  exact Nat.mod_eq_of_lt (Nat.div_lt_of_lt_mul t.isLt)

/-! ## ReadValue -/

/-- The words from 0x040 on, up to S of them, read the pulse slots (20_memory.md R53). -/
theorem readValue_slot {w : WordIndex} (h1 : 0x040 ≤ w.toNat) (h2 : w.toNat < 0x040 + s.params.slots) :
    readValue s w = slot s (w.toNat - 0x040) := by
  have ne {k : WordIndex} (hk : k.toNat < 0x040) : w ≠ k := by
    rintro rfl; omega
  unfold readValue
  iterate 17 refine (if_neg (ne (by decide))).trans ?_
  exact if_pos ⟨h1, h2⟩

/-- Settles O12: the multi-field registers by the sums of their fields, the slots and the reserved words by range, and each
other word by the one line of `readValue` that names it. -/
theorem readValueByRegister : Obligations.ReadValueByRegister := by
  intro s
  refine ⟨?_, ?_, rfl, time_low_toNat _, time_high_toNat _, rfl, ?_, ?_, rfl, time_low_toNat _, time_high_toNat _,
    rfl, rfl, rfl, rfl, rfl, paramWord_toNat _, fun i hi => ?_, fun w h => readValue_reserved s h⟩
  · refine (statusWord_toNat s).trans ?_
    cases hq : s.seq <;> simp only [running, hq, seqCode, Bool.toNat_true, Bool.toNat_false, BitVec.toNat_ofNat] <;> omega
  · refine (resultWord_toNat s).trans ?_
    cases s.outKind <;> exact Nat.add_comm _ _
  · exact BitVec.toNat_setWidth_of_le (show 16 ≤ 32 by decide)
  · change (bitAt 0 s.dbValid).toNat = _
    cases s.dbValid <;> rfl
  · have hslots := (slots_bounds s.params).2
    have hi' : i < s.params.slots := hi
    have hw : (BitVec.ofNat 10 (0x040 + i)).toNat = 0x040 + i := Nat.mod_eq_of_lt (by omega)
    rw [readValue_slot s (by omega) (by omega), hw, Nat.add_sub_cancel_left, slot_eq]

/-- Settles O11: a word with W = 0 stands in the line of RD, whose effect is to put ReadValue on the bus. -/
theorem readReturnsRegister : Obligations.ReadReturnsRegister :=
  fun _ _ _ => ⟨DecodeLine.rd.decodeBus_eq, rfl⟩

end Sys2Proof.Machine

/-! # The host interface: writes (O15, O18 to O22, O24) -/

namespace Sys2Proof.Machine

/-- Settles O15: the lines of the five CFG writes, each with `cfgWrite` of its own register. -/
theorem cfgWriteOnlyInStopped : Obligations.CfgWriteOnlyInStopped := by
  intro s a d
  have word {m : WordIndex} (h : a.toNat / 4 = m.toNat) : wordIndex a = m := (wordIndex_eq_iff_toNat a m).2 h
  exact ⟨fun h => (DecodeLine.wrCfgIdle (word h)).decodeBus_eq, fun h => (DecodeLine.wrCfgWindow (word h)).decodeBus_eq,
    fun h => (DecodeLine.wrCfgFloor (word h)).decodeBus_eq, fun h => (DecodeLine.wrCfgThresh (word h)).decodeBus_eq,
    fun h => (DecodeLine.wrCfgRefract (word h)).decodeBus_eq, rfl, rfl, rfl, rfl, rfl⟩

/-- CMD is word 0 (20_memory.md R52). -/
theorem wordIndex_cmd {a : Addr} (ha : a.toNat / 4 = 0) : wordIndex a = 0x000#10 := (wordIndex_eq_iff_toNat a _).2 ha

/-- Settles O18, by the lines of NOP and WR_IGNORED. -/
theorem nopAndIgnoredWriteDoNothing : Obligations.NopAndIgnoredWriteDoNothing := by
  intro s a d
  refine ⟨fun ha => (DecodeLine.nop (wordIndex_cmd ha) rfl).decodeBus_eq, rfl, fun ha => ?_, rfl⟩
  exact (DecodeLine.wrIgnored (mt (wordIndex_mem_writableWords_iff a).1 ha)).decodeBus_eq

/-- Settles O19: the three cases are those of `execStart`. -/
theorem startBeginsOrFaults : Obligations.StartBeginsOrFaults :=
  fun _ _ => ⟨fun ha => (DecodeLine.start (wordIndex_cmd ha) rfl).decodeBus_eq, rfl⟩

/-- Settles O20: the three cases are those of `requestStop`, with RUNNING by STATE. -/
theorem stopIsCooperative : Obligations.StopIsCooperative := by
  intro s a
  refine ⟨fun ha => (DecodeLine.stop (wordIndex_cmd ha) rfl).decodeBus_eq, ?_⟩
  simp only [← running_iff]
  rfl

/-- Settles O21: the two cases are those of `execAbort`, with RUNNING by STATE. -/
theorem abortEndsLoopAtOnce : Obligations.AbortEndsLoopAtOnce := by
  intro s a
  refine ⟨fun ha => (DecodeLine.abort (wordIndex_cmd ha) rfl).decodeBus_eq, ?_⟩
  simp only [← running_iff]
  rfl

/-- Settles O22: a D of 5 or more has an OP above 4 or a non-zero MBZ. -/
theorem errorCommands : Obligations.ErrorCommands := by
  intro s a d ha
  have hw := wordIndex_cmd ha
  refine ⟨(DecodeLine.clrerr hw rfl).decodeBus_eq, rfl, fun hd => ?_, rfl⟩
  have reserved : 5 ≤ d.toNat % 16 ∨ d.toNat / 16 ≠ 0 := by omega
  exact (DecodeLine.cmdReserved hw (not_mem_commandData_of_reserved reserved)).decodeBus_eq

/-- Settles O24: START by its three cases, ABORT by its two, and every other host operation leaves the datapath. -/
theorem hostCannotWriteDatapath : Obligations.HostCannotWriteDatapath := by
  intro s t i h hs
  refine ⟨fun hst ha => exec_sameDatapath hs hst ha h, ?_, ?_⟩
  · rintro rfl
    cases h
    split
    · split
      · exact ⟨rfl, rfl, rfl, rfl, rfl, rfl, rfl, rfl, .inr ⟨rfl, rfl, rfl, rfl⟩⟩
      · exact ⟨rfl, rfl, rfl, rfl, rfl, rfl, rfl, rfl, .inl ⟨rfl, rfl, rfl, rfl⟩⟩
    · exact ⟨rfl, rfl, rfl, rfl, rfl, rfl, rfl, rfl, .inl ⟨rfl, rfl, rfl, rfl⟩⟩
  · rintro rfl
    cases h
    split
    · exact ⟨⟨rfl, rfl, rfl, rfl, rfl, rfl, rfl, rfl, rfl, rfl, rfl, rfl⟩, .inr ⟨rfl, rfl⟩⟩
    · exact ⟨⟨rfl, rfl, rfl, rfl, rfl, rfl, rfl, rfl, rfl, rfl, rfl, rfl⟩, .inl ⟨rfl, rfl⟩⟩

end Sys2Proof.Machine

/-! # FAULT and the error flags (O25, O40) -/

namespace Sys2Proof.Machine

variable {s s' : State}

/-! ## One flag per host write -/

/-- A host instruction raises CMD_ERR or INIT_FAULT, not both: INIT_FAULT is written in STOPPED, where START is no
command error (44_host_interface.md R190). -/
theorem HostEffect.keeps_initFault_or_cmdErr (h : HostEffect s s') : s'.initFault = s.initFault ∨ s'.cmdErr = s.cmdErr := by
  cases h with
  | startFault => exact .inr rfl
  | cfg r d => rw [setCfg_eq]; exact .inl rfl
  | _ => exact .inl rfl

/-- A CFG write writes neither CMD_ERR nor INIT_FAULT (44_host_interface.md R182). -/
theorem cfgWrite_keepsFlags (r : CfgReg) (d : Word) :
    (cfgWrite r d s).cmdErr = s.cmdErr ∧ (cfgWrite r d s).initFault = s.initFault := by
  rcases cfgWrite_cases s r d with ⟨-, h⟩ | ⟨-, h⟩ <;> rw [h]
  · rw [setCfg_eq]; exact ⟨rfl, rfl⟩
  · exact ⟨rfl, rfl⟩

theorem requestStop_cfgErr : (requestStop s).cfgErr = s.cfgErr := by
  unfold requestStop
  split
  · rfl
  · split <;> rfl

/-- A CMD write never raises CFG_ERR (60_exceptions.md R217). -/
theorem exec_cmd_cfgErr {a : Addr} {d : Word} {i : Instr} (line : DecodeLine a d true i) (ha : wordIndex a = 0x000#10)
    (h : exec i s = .next s') (he : s'.cfgErr = true) : s.cfgErr = true := by
  cases line with
  | nop | cmdReserved => cases h; exact he
  | start =>
    cases h
    split at he
    · split at he <;> exact he
    · exact he
  | stop => cases h; rwa [requestStop_cfgErr] at he
  | abort => cases h; split at he <;> exact he
  | clrerr => cases h; cases he
  | wrCfgIdle hw | wrCfgWindow hw | wrCfgFloor hw | wrCfgThresh hw | wrCfgRefract hw => cases ha.symm.trans hw
  | wrIgnored hw => exact absurd (ha ▸ by decide) hw

/-- A write to any other word is a CFG write or ignored, and writes neither CMD_ERR nor INIT_FAULT (60_exceptions.md R217). -/
theorem exec_otherWrite_keepsFlags {a : Addr} {d : Word} {i : Instr} (line : DecodeLine a d true i)
    (ha : wordIndex a ≠ 0x000#10) (h : exec i s = .next s') : s'.cmdErr = s.cmdErr ∧ s'.initFault = s.initFault := by
  cases line with
  | nop hw | start hw | stop hw | abort hw | clrerr hw | cmdReserved hw => exact absurd hw ha
  | wrCfgIdle | wrCfgWindow | wrCfgFloor | wrCfgThresh | wrCfgRefract => cases h; exact cfgWrite_keepsFlags _ d
  | wrIgnored => cases h; exact ⟨rfl, rfl⟩

/-- Settles O25: by the decoder's line of the write. -/
theorem oneFlagPerHostWrite : Obligations.OneFlagPerHostWrite := by
  intro s t a d h
  have line := decodeLine_decodeBus true a d
  have effect := hostEffect_of_exec (fun _ _ e => (decodeLine_of_decodeBus_eq e).not_smp) h
  refine ⟨?_, fun ha => exec_cmd_cfgErr line (wordIndex_cmd ha) h,
    fun ha => exec_otherWrite_keepsFlags line (mt (wordIndex_eq_iff_toNat a _).1 ha) h⟩
  rintro ⟨hc, hc', hf, hf'⟩
  rcases effect.keeps_initFault_or_cmdErr with e | e
  · exact Bool.false_ne_true (hf.symm.trans (e.symm.trans hf'))
  · exact Bool.false_ne_true (hc.symm.trans (e.symm.trans hc'))

/-! ## FAULT -/

/-- In FAULT the table keeps STATE for every event but RESET (40_cycle_fsm.md R104). -/
theorem transitionTable_of_fault {e : PortEvent} (hq : s.seq = .fault) (he : e ≠ .reset) (av : Bool) :
    transitionTable s av e = .fault := by
  cases e with
  | reset => exact absurd rfl he
  | word w => simp only [transitionTable, hq]

theorem afterFinish_ne_fault (s : State) : afterFinish s ≠ .fault := by
  rcases afterFinish_cases s with h | h <;> rw [h] <;> nofun

/-- The only line of the table that enters FAULT (40_cycle_fsm.md R104). -/
theorem start_of_transitionTable_eq_fault {av : Bool} {e : PortEvent} (hq : s.seq ≠ .fault)
    (h : transitionTable s av e = .fault) :
    s.seq = .stopped ∧ av = false ∧ ∃ w, e = .word w ∧ decodeWire w = .start := by
  unfold transitionTable at h
  split at h
  · cases h
  split at h
  case h_1 hs hd =>
    cases av with
    | true => cases h
    | false => exact ⟨hs, rfl, _, rfl, hd⟩
  case h_2 => split at h <;> cases h
  case h_3 | h_4 | h_5 => cases h
  case h_6 | h_7 | h_8 => simp [ite_eq_iff, afterFinish_ne_fault] at h
  case h_9 => exact absurd h hq

/-- START is a command error in every STATE but STOPPED (44_host_interface.md R190). -/
theorem exec_start_of_not_stopped (hq : s.seq ≠ .stopped) : exec .start s = .next (raiseCmdErr s) :=
  congrArg Host.Outcome.next (if_neg hq)

/-- A CFG write is a configuration error in every STATE but STOPPED (44_host_interface.md R182). -/
theorem exec_wrCfg_of_not_stopped {i : Instr} {d : Word} (hq : s.seq ≠ .stopped)
    (hi : i = .wrCfgIdle d ∨ i = .wrCfgWindow d ∨ i = .wrCfgFloor d ∨ i = .wrCfgThresh d ∨ i = .wrCfgRefract d) :
    exec i s = .next (raiseCfgErr s) := by
  rcases hi with rfl | rfl | rfl | rfl | rfl <;> exact congrArg Host.Outcome.next (if_neg hq)

/-- Only START in STOPPED raises INIT_FAULT (60_exceptions.md R214). -/
theorem HostEffect.keepsInitFault (h : HostEffect s s') (hq : s.seq ≠ .stopped) : s'.initFault = s.initFault := by
  cases h with
  | startFault hs | cfg _ _ hs => exact absurd hs hq
  | _ => rfl

/-- Outside STOPPED only RESET writes INIT_FAULT (60_exceptions.md R214). -/
theorem step_keepsInitFault {av : Bool} {e : PortEvent} {rest : List Arrival} (hp : s.pending = ⟨av, e⟩ :: rest)
    (he : e ≠ .reset) (hq : s.seq ≠ .stopped) (h : step s = .next s') : s'.initFault = s.initFault := by
  obtain ⟨_, _, ⟨hp', _⟩ | ⟨w, _, ⟨l, u, _, _, effect⟩ | effect⟩⟩ := step_effect_cases h
  · cases hp.symm.trans hp'; exact absurd rfl he
  · obtain ⟨-, -, hf, -⟩ := effect.keepsInputs
    exact hf
  · exact effect.keepsInitFault hq

theorem step_word {av : Bool} {w : WireWord} {rest : List Arrival} (hp : s.pending = ⟨av, .word w⟩ :: rest) :
    step s = exec (decodeWire w) (receive av rest s) :=
  stepRunsDecodedInstruction.1 s av w rest hp

/-- START in STOPPED with the input unavailable, the one fatal condition (60_exceptions.md R214). -/
theorem step_start_unavailable {w : WireWord} {rest : List Arrival} (hp : s.pending = ⟨false, .word w⟩ :: rest)
    (hd : decodeWire w = .start) (hq : s.seq = .stopped) :
    step s = .next { raiseInitFault (receive false rest s) with seq := .fault } := by
  rw [step_word hp, hd]
  exact congrArg Host.Outcome.next (if_pos hq)

/-- In FAULT a sample is ignored (40_cycle_fsm.md R108). -/
theorem onSample_of_fault (hq : s.seq = .fault) (l : Bool) (t : Time) : onSample l t s = s := by
  simp only [onSample, hq]

/-- Settles O40: STATE by the transition table, and each word in FAULT by its own meaning. -/
theorem faultLeftOnlyByReset : Obligations.FaultLeftOnlyByReset := by
  intro s t av e rest hp h
  have table := stateFollowsTransitionTable s t av e rest hp h
  refine ⟨fun hq he => ⟨?_, ?_, ?_⟩, ?_, fun hq hf => ?_, ?_⟩
  · rw [table, transitionTable_of_fault hq he]
  · exact step_keepsInitFault hp he (by simp [hq]) h
  · rintro w rfl
    have hn : (receive av rest s).seq ≠ .stopped := by simp [hq]
    rw [step_word hp] at h
    refine ⟨fun hd => ?_, fun d hd => ?_, fun l u hd => ?_⟩
    · rw [hd, exec_start_of_not_stopped hn] at h
      cases h; rfl
    · rw [exec_wrCfg_of_not_stopped hn hd] at h
      cases h; exact ⟨rfl, rfl, rfl, rfl, rfl, rfl⟩
    · rw [hd] at h
      obtain ⟨-, rfl⟩ := exec_smp_next h
      refine onSample_of_fault ?_ l u
      exact hq
  · rintro hq rfl
    rw [step, hp] at h
    cases h; exact ⟨rfl, rfl⟩
  · obtain ⟨hs, rfl, w, rfl, hd⟩ := start_of_transitionTable_eq_fault hq (table.symm.trans hf)
    rw [step_start_unavailable hp hd hs] at h
    cases h; exact ⟨hs, rfl, rfl, w, rfl, hd⟩
  · rintro hs rfl ⟨w, rfl, hd⟩
    rw [step_start_unavailable hp hd hs] at h
    cases h; exact ⟨rfl, rfl⟩

end Sys2Proof.Machine

/-! # RESET (O8) -/

namespace Sys2Proof.Machine

variable (s : State)

/-- RESET completes in every state (70_reset_and_hazards.md R240). -/
theorem step_reset {av : Bool} {rest : List Arrival} (hp : s.pending = ⟨av, .reset⟩ :: rest) :
    step s = .next (resetEvent (receive av rest s)) := by
  rw [step, hp]

/-- What RESET leaves is the start of a run, but for the build, LAST_T, the ports and the trace
(70_reset_and_hazards.md R240). -/
theorem resetEvent_receive_eq (av : Bool) (rest : List Arrival) :
    resetEvent (receive av rest s) = { State.reset with
      params := s.params, pw := clearedSlots s.params, lastT := s.lastT, inAvail := av, pending := rest, trace := s.trace } :=
  rfl

theorem statusWord_resetEvent : statusWord (resetEvent s) = 0#32 := by
  simp only [statusWord, running, resetEvent_seq, resetEvent_stopPend, resetEvent_cmdErr, resetEvent_cfgErr,
    resetEvent_initFault]
  decide

theorem resultWord_resetEvent : resultWord (resetEvent s) = 0#32 := by
  simp only [resultWord, resetEvent_outKind, resetEvent_outSeq]
  decide

theorem slot_resetEvent (i : Nat) : slot (resetEvent s) i = 0#32 := clearedSlots_getD s.params i

/-- PARAM of a build with N_LEADER = 1: S is 33, N_DATA is 32 (10_state.md R44). -/
theorem paramWord_of_nLeader_eq_one {p : Config.Params} (h : p.nLeader = 1) : paramWord p = 0x00212001#32 := by
  obtain ⟨n⟩ := p
  subst h
  decide

/-- Settles O8: STATUS, RESULT, PARAM and the slots by their own lemmas, and each other register by the element it shows. -/
theorem resetWritesEveryElement : Obligations.ResetWritesEveryElement := by
  intro s av rest hp
  refine ⟨_, step_reset s hp, resetEvent_receive_eq s av rest, ?status, ?result, ?outCode, ?outTimeLow, ?outTimeHigh,
    ?evtCount, ?pcount, ?dbValid, ?dbCode, ?dbTimeLow, ?dbTimeHigh, ?cfgIdle, ?cfgWindow, ?cfgFloor, ?cfgThresh,
    ?cfgRefract, ?param, slot_resetEvent _⟩
  case status => exact (readAddr_status _).trans (statusWord_resetEvent _)
  case result => exact resultWord_resetEvent (receive av rest s)
  case param => exact fun h => paramWord_of_nLeader_eq_one h
  case outTimeHigh | dbTimeHigh => exact BitVec.extractLsb'_zero
  all_goals rfl

end Sys2Proof.Machine
